-- ==== Sys2Proof/Word.lean ====
section
/-! DEFINITION. The widths of the block's quantities, all unsigned (00_scope R10, R8; 10_state R21 to R36). -/

namespace Sys2Proof

/-- A command word or a response word (R80, R95). -/
abbrev Word := BitVec 32

/-- A pin number, `W_PIN` = 8 bits (R8, R62). -/
abbrev Pin := BitVec 8

/-- A pulse-width output level, 0 to 255 (R22). -/
abbrev Level := BitVec 8

/-- A servo angle in degrees (R25). -/
abbrev Angle := BitVec 8

/-- A ramp speed code as it is stored or given, 3 bits (R24, R87). -/
abbrev SpeedCode := BitVec 3

/-- A channel id as a command gives it, 4 bits (R85). -/
abbrev ChanId := BitVec 4

/-- A value of the millisecond clock, `W_TIME` = 32 bits (R8, R36). -/
abbrev Time := BitVec 32

/-- A `minHoldMs` operand, `W_HOLD` = 16 bits (R8, R89). -/
abbrev HoldMs := BitVec 16

/-- The levels of all 256 digital lines: bit `p` is `Line(p)`, 1 = active (R35). -/
abbrev Lines := BitVec 256

end Sys2Proof
end

