-- ==== Sys2Proof/Config.lean ====
section
/-! DEFINITION. What is fixed when the block is built (00_scope R8, 10_state R31), and the free values:
what the spec leaves open and nothing in Lean can evaluate. -/

namespace Sys2Proof

/-- `ARB` of R8: which goes first when a hardware tick and a command fall in the same clock cycle. -/
inductive Arb where
  | tickFirst
  | cmdFirst
deriving DecidableEq, Repr, Inhabited

/-- The parameters of R8 that a built block fixes. No command reads or writes them and reset does not
change them (R31). -/
structure Config where
  capPw : Nat
  capSv : Nat
  capSw : Nat
  tickDiv : Nat
  svAngleMax : Angle
  pwSpeedReset : SpeedCode
  svSpeedReset : SpeedCode
  svAttachAtReg : Bool
  arb : Arb
deriving DecidableEq, Repr

/-- The "legal values" column of R8, and R9: a capacity is 1 to 16, the divisor at least 1. -/
abbrev Config.Legal (c : Config) : Prop :=
  (1 ≤ c.capPw ∧ c.capPw ≤ 16) ∧ (1 ≤ c.capSv ∧ c.capSv ≤ 16) ∧ (1 ≤ c.capSw ∧ c.capSw ≤ 16) ∧
  1 ≤ c.tickDiv ∧ 90 ≤ c.svAngleMax.toNat ∧ c.pwSpeedReset.toNat ≤ 5 ∧
  (1 ≤ c.svSpeedReset.toNat ∧ c.svSpeedReset.toNat ≤ 5)

/-- `PW_NEUTRAL`, fixed (R8). -/
def Config.pwNeutral : Level := 0

/-- `SV_NEUTRAL`, fixed (R8). -/
def Config.svNeutral : Angle := 90

/-- FREE VALUE (log 3): `SV_SPEED_RESET` is OPEN in R8, one of 1 to 5; this is that code less one. -/
opaque Config.openSvSpeed : Fin 5

/-- FREE VALUE (log 4): `ARB` is OPEN in R8. -/
opaque Config.openArb : Arb

/-- The block with the spec's defaults (R8) and its two OPEN parameters left free (logs 2, 3, 4). -/
def Config.default : Config where
  capPw := 8
  capSv := 8
  capSw := 8
  tickDiv := 25
  svAngleMax := 180
  pwSpeedReset := 0
  svSpeedReset := BitVec.ofNat 3 (1 + Config.openSvSpeed.val)
  svAttachAtReg := true
  arb := Config.openArb

/-- What the surroundings present to the block in one cycle: the strobes (R48, R240), a command word
or none (R34), the lines (R35), and by how many milliseconds, modulo `2^32`, the clock has advanced
since the cycle before. An advance instead of a value is the monotone law of R36. -/
structure EnvInput where
  rst : Bool
  hwTick : Bool
  cmd : Option Word
  lines : Lines
  advance : Time
deriving DecidableEq, Repr, Inhabited

/-- FREE VALUE (log 6): what the surroundings present when no input is listed in State any more
(93 U10: any value). -/
opaque Config.freeInput : Nat → EnvInput

end Sys2Proof
end

