-- ==== Sys2Proof/Syntax.lean ====
section
/-! DEFINITION. The command word's fields (30_encoding R80), the formats (R83), and the 17 commands
(R84), one constructor for each row of spec/opcode_table.json. -/

namespace Sys2Proof

/-- The six fields of a command word, high bits first (R80). -/
structure Fields where
  op : BitVec 4
  kind : BitVec 2
  z1 : BitVec 2
  ch : ChanId
  z2 : BitVec 4
  payload : BitVec 16
deriving DecidableEq, Repr

/-- The formats of R83. -/
inductive Format where
  | R
  | V
  | VS
  | C
  | K
  | H
deriving DecidableEq, Repr

/-- The commands of R84. An operand has exactly the width R85 to R89 give its field, so every term is
an instruction that has a word. -/
inductive Instr where
  /-- `REG.PW pin[, aux]` (R112). -/
  | regPw (pin : Pin) (aux : BitVec 8)
  /-- `REG.SV pin[, aux]` (R113). -/
  | regSv (pin : Pin) (aux : BitVec 8)
  /-- `REG.SW pin[, aux]` (R114). -/
  | regSw (pin : Pin) (aux : BitVec 8)
  /-- `PW.SET ch, value` (R171). -/
  | pwSet (ch : ChanId) (value : Level)
  /-- `SV.MOVE ch, angle` (R174). -/
  | svMove (ch : ChanId) (angle : Angle)
  /-- `PW.FADE ch, value, speed` (R172). -/
  | pwFade (ch : ChanId) (value : Level) (speed : SpeedCode)
  /-- `SV.MOVES ch, angle, speed` (R175). -/
  | svMoves (ch : ChanId) (angle : Angle) (speed : SpeedCode)
  /-- `PW.SETTLED ch` (R191). -/
  | pwSettled (ch : ChanId)
  /-- `SV.SETTLED ch` (R192). -/
  | svSettled (ch : ChanId)
  /-- `PW.ALLSET` (R193). -/
  | pwAllset
  /-- `SV.ALLSET` (R194). -/
  | svAllset
  /-- `PW.WAIT ch` (R195). -/
  | pwWait (ch : ChanId)
  /-- `SV.WAIT ch` (R196). -/
  | svWait (ch : ChanId)
  /-- `PW.WAITALL` (R197). -/
  | pwWaitall
  /-- `SV.WAITALL` (R198). -/
  | svWaitall
  /-- `SV.REST ch` (R177). -/
  | svRest (ch : ChanId)
  /-- `SW.ACTIVE ch, hold` (R202). -/
  | swActive (ch : ChanId) (hold : HoldMs)
deriving DecidableEq, Repr

end Sys2Proof
end

