-- ==== Sys2Proof/WellFormed.lean ====
section
/-! DEFINITION. Which fields of a command word may stand together: the (op, kind) pairs of R84 and the
must-be-zero bits of R83 and R93. It is written apart from the decoder, so that the two can be held
against each other. -/

namespace Sys2Proof

/-- The format of an (op, kind) pair (R81 to R84), none where the pair names no command (R92). -/
def Format.ofPair (op : BitVec 4) (kind : BitVec 2) : Option Format :=
  match op.toNat, kind.toNat with
  | 1, 0 | 1, 1 | 1, 2 => some .R
  | 2, 0 | 2, 1 => some .V
  | 3, 0 | 3, 1 => some .VS
  | 4, 0 | 4, 1 => some .C
  | 5, 0 | 5, 1 => some .K
  | 6, 0 | 6, 1 => some .C
  | 7, 0 | 7, 1 => some .K
  | 8, 1 => some .C
  | 9, 2 => some .H
  | _, _ => none

/-- The `ch` field must be zero in formats R and K (R83, R93). -/
def Format.chOk (f : Format) (ch : ChanId) : Bool :=
  match f with
  | .R | .K => ch = 0
  | .V | .VS | .C | .H => true

/-- The payload bits that must be zero are zero (R83, R93): 15:8 in format V, 15:11 in VS, all of them
in C and K. -/
def Format.payloadOk (f : Format) (p : BitVec 16) : Bool :=
  match f with
  | .V => p.toNat < 256
  | .VS => p.toNat < 2048
  | .C | .K => p = 0
  | .R | .H => true

/-- The fields make a command word: the pair names a command and every reserved bit is zero. -/
def Fields.wellFormed (f : Fields) : Bool :=
  match Format.ofPair f.op f.kind with
  | none => false
  | some fmt => f.z1 = 0 && f.z2 = 0 && fmt.chOk f.ch && fmt.payloadOk f.payload

end Sys2Proof
end

