-- ==== Sys2Proof/Decode.lean ====
section
/-! DEFINITION. Decoding (30_encoding R90), total on every 32-bit word and rejecting by name, and the
encoder written from the same rules (R80 to R89). A word moves as one unit; no byte order enters
(20_memory R65, log 20). -/

namespace Sys2Proof

/-- Why a word is no command (R91, R92, R93). All four are answered `IllegalCommand`; the names are the
model's own (log 15). -/
inductive Illegal where
  /-- `op` is 0x0 or 0xA to 0xF. -/
  | reservedOp
  /-- `kind` is 3. -/
  | reservedKind
  /-- The (op, kind) pair is one of R92's. -/
  | noSuchPair
  /-- A must-be-zero bit of R93 is set. -/
  | mustBeZero
deriving DecidableEq, Repr

/-- `w[31:28]` (R80). -/
def opOf (w : Word) : BitVec 4 := w.extractLsb' 28 4

/-- `w[27:26]` (R80, R82). -/
def kindOf (w : Word) : BitVec 2 := w.extractLsb' 26 2

/-- `w[25:24]`, must be zero (R80). -/
def z1Of (w : Word) : BitVec 2 := w.extractLsb' 24 2

/-- `w[23:20]` (R85). -/
def chOf (w : Word) : ChanId := w.extractLsb' 20 4

/-- `w[19:16]`, must be zero (R80). -/
def z2Of (w : Word) : BitVec 4 := w.extractLsb' 16 4

/-- `w[15:0]` (R80), and `hold` of format H (R89). -/
def payloadOf (w : Word) : BitVec 16 := w.extractLsb' 0 16

/-- `w[7:0]`: `value`, `angle` or `pin` (R86, R88). -/
def valueOf (w : Word) : BitVec 8 := w.extractLsb' 0 8

/-- `w[10:8]` (R87). -/
def speedOf (w : Word) : SpeedCode := w.extractLsb' 8 3

/-- `w[15:8]` (R88). -/
def auxOf (w : Word) : BitVec 8 := w.extractLsb' 8 8

/-- `w[15:11]`, must be zero in formats V and VS (R83). -/
def highPayloadOf (w : Word) : BitVec 5 := w.extractLsb' 11 5

/-- `i` if the reserved bits of the word are zero, else the refusal (R93). -/
def accept (ok : Bool) (i : Instr) : Except Illegal Instr :=
  if ok then .ok i else .error .mustBeZero

/-- `z1` and `z2` are zero: the must-be-zero bits of every format (R93). -/
def zOk (w : Word) : Bool := z1Of w = 0 && z2Of w = 0

/-- Format R: `ch` is zero (R83). -/
def okR (w : Word) : Bool := zOk w && chOf w = 0

/-- Format V: payload 15:8 is zero (R83). -/
def okV (w : Word) : Bool := zOk w && auxOf w = 0

/-- Format VS: payload 15:11 is zero (R83). -/
def okVS (w : Word) : Bool := zOk w && highPayloadOf w = 0

/-- Format C: the whole payload is zero (R83). -/
def okC (w : Word) : Bool := zOk w && payloadOf w = 0

/-- Format K: `ch` and the whole payload are zero (R83). -/
def okK (w : Word) : Bool := zOk w && chOf w = 0 && payloadOf w = 0

/-- Format H: only `z1` and `z2` must be zero (R83). -/
def okH (w : Word) : Bool := zOk w

/-- Why an (op, kind) pair without a row of R84 is no command (R91, R92). -/
def whyIllegal (op kind : Nat) : Illegal :=
  if op = 0 ∨ 10 ≤ op then .reservedOp else if kind = 3 then .reservedKind else .noSuchPair

/-- Decode an accepted word (R84, R90): the row of the (op, kind) pair, its reserved bits checked, its
operands as R85 to R89 assemble them. -/
def decode (w : Word) : Except Illegal Instr :=
  match (opOf w).toNat, (kindOf w).toNat with
  | 1, 0 => accept (okR w) (.regPw (valueOf w) (auxOf w))
  | 1, 1 => accept (okR w) (.regSv (valueOf w) (auxOf w))
  | 1, 2 => accept (okR w) (.regSw (valueOf w) (auxOf w))
  | 2, 0 => accept (okV w) (.pwSet (chOf w) (valueOf w))
  | 2, 1 => accept (okV w) (.svMove (chOf w) (valueOf w))
  | 3, 0 => accept (okVS w) (.pwFade (chOf w) (valueOf w) (speedOf w))
  | 3, 1 => accept (okVS w) (.svMoves (chOf w) (valueOf w) (speedOf w))
  | 4, 0 => accept (okC w) (.pwSettled (chOf w))
  | 4, 1 => accept (okC w) (.svSettled (chOf w))
  | 5, 0 => accept (okK w) .pwAllset
  | 5, 1 => accept (okK w) .svAllset
  | 6, 0 => accept (okC w) (.pwWait (chOf w))
  | 6, 1 => accept (okC w) (.svWait (chOf w))
  | 7, 0 => accept (okK w) .pwWaitall
  | 7, 1 => accept (okK w) .svWaitall
  | 8, 1 => accept (okC w) (.svRest (chOf w))
  | 9, 2 => accept (okH w) (.swActive (chOf w) (payloadOf w))
  | op, kind => .error (whyIllegal op kind)

/-- The six fields of a word (R80). -/
def split (w : Word) : Fields :=
  ⟨opOf w, kindOf w, z1Of w, chOf w, z2Of w, payloadOf w⟩

/-- The word of six fields, `op` in the high bits (R80). -/
def pack (f : Fields) : Word :=
  f.op ++ f.kind ++ f.z1 ++ f.ch ++ f.z2 ++ f.payload

/-- Format V's payload (R83). -/
def payloadV (value : BitVec 8) : BitVec 16 := 0#8 ++ value

/-- Format VS's payload (R83). -/
def payloadVS (speed : SpeedCode) (value : BitVec 8) : BitVec 16 := 0#5 ++ speed ++ value

/-- Format R's payload (R83). -/
def payloadR (aux : BitVec 8) (pin : Pin) : BitVec 16 := aux ++ pin

/-- An instruction's fields: op and kind by R81, R82, R84, operands laid out by R83, reserved bits
zero. -/
def fieldsOf (i : Instr) : Fields :=
  match i with
  | .regPw pin aux => ⟨1, 0, 0, 0, 0, payloadR aux pin⟩
  | .regSv pin aux => ⟨1, 1, 0, 0, 0, payloadR aux pin⟩
  | .regSw pin aux => ⟨1, 2, 0, 0, 0, payloadR aux pin⟩
  | .pwSet ch value => ⟨2, 0, 0, ch, 0, payloadV value⟩
  | .svMove ch angle => ⟨2, 1, 0, ch, 0, payloadV angle⟩
  | .pwFade ch value speed => ⟨3, 0, 0, ch, 0, payloadVS speed value⟩
  | .svMoves ch angle speed => ⟨3, 1, 0, ch, 0, payloadVS speed angle⟩
  | .pwSettled ch => ⟨4, 0, 0, ch, 0, 0⟩
  | .svSettled ch => ⟨4, 1, 0, ch, 0, 0⟩
  | .pwAllset => ⟨5, 0, 0, 0, 0, 0⟩
  | .svAllset => ⟨5, 1, 0, 0, 0, 0⟩
  | .pwWait ch => ⟨6, 0, 0, ch, 0, 0⟩
  | .svWait ch => ⟨6, 1, 0, ch, 0, 0⟩
  | .pwWaitall => ⟨7, 0, 0, 0, 0, 0⟩
  | .svWaitall => ⟨7, 1, 0, 0, 0, 0⟩
  | .svRest ch => ⟨8, 1, 0, ch, 0, 0⟩
  | .swActive ch hold => ⟨9, 2, 0, ch, 0, hold⟩

/-- The word of an instruction. -/
def encode (i : Instr) : Word := pack (fieldsOf i)

/-- The instruction that the decoder reads from a table row's `nbits` bits `w`; every bit above them is
zero. A word has one length, 32 bits (R80). -/
def decodeTableWord (nbits w : Nat) : Option Instr :=
  match decode (BitVec.ofNat 32 (w % 2 ^ nbits)) with
  | .ok i => some i
  | .error _ => none

end Sys2Proof
end

