-- ==== Sys2Proof/Machine/State.lean ====
section
/-! DEFINITION. The block's state (10_state R20 to R31), its ports (R34 to R39, R48, R240), the model's own
fields for the surroundings, and the state after reset (R46). -/

namespace Sys2Proof.Machine

/-- A registered slot of the pulse-width table (R20 to R24). -/
structure PwSlot where
  pin : Pin
  current : Level
  target : Level
  speed : SpeedCode
deriving DecidableEq, Repr

/-- A registered slot of the servo table (R25, R26). -/
structure SvSlot where
  pin : Pin
  currentAngle : Angle
  targetAngle : Angle
  speed : SpeedCode
  attached : Bool
deriving DecidableEq, Repr

/-- A registered slot of the switch table (R27): `latched = false` is the sentinel "not pressed". -/
structure SwSlot where
  pin : Pin
  latched : Bool
  pressTs : Time
deriving DecidableEq, Repr

/-- The direction of a pin (R40). -/
inductive Dir where
  | out
  | inp
deriving DecidableEq, Repr

/-- The output events of R39. -/
inductive Event where
  | pinMode (p : Pin) (d : Dir)
  | svAttach (p : Pin)
  | svDetach (p : Pin)
  | svWrite (p : Pin) (a : Angle)
  | pwWrite (p : Pin) (v : Level)
deriving DecidableEq, Repr

/-- The statuses of R96. -/
inductive Status where
  | ok
  | capacityExceeded
  | invalidChannel
  | invalidSpeed
  | invalidValue
  | illegalCommand
deriving DecidableEq, Repr

/-- The machine: the block's own state, its ports, and the surroundings still to come. -/
structure State where
  /-- The parameters of the built block (R8, R31); no transition writes them. -/
  cfg : Config
  /-- The registered pulse-width slots, slot 0 first; `n_pw` is the length (R20, R28, R29, log 10). -/
  pw : List PwSlot
  /-- The registered servo slots; `n_sv` is the length (R25, R28, R29). -/
  sv : List SvSlot
  /-- The registered switch slots; `n_sw` is the length (R27, R28, R29). -/
  sw : List SwSlot
  /-- `tick_count`, hardware ticks since the last logic tick (R30). -/
  tickCount : Nat
  /-- The output event trace, oldest event first (R39). -/
  trace : List Event
  /-- The command port (R34): the word while `cmd_valid` = 1, none while it is 0. -/
  cmd : Option Word
  /-- The response port (R34): the word while `rsp_valid` = 1, none while it is 0 (log 14). -/
  rsp : Option Word
  /-- The hardware tick input of this cycle, until it is taken (R48). -/
  hwTick : Bool
  /-- The reset input of this cycle, until it is taken (R240). -/
  rst : Bool
  /-- The digital lines (R35). -/
  lines : Lines
  /-- The millisecond clock `Now()` (R36). -/
  now : Time
  /-- The MODEL's own: the host side's never-cleared fault mark (R214, 93 U1, log 13). -/
  hostMark : Bool
  /-- The MODEL's own: what the surroundings will present in the coming cycles, next first (log 6). -/
  env : List EnvInput
  /-- The MODEL's own: the number of free inputs already read, the argument of `Config.freeInput`
  (log 6). -/
  freeCount : Nat
deriving DecidableEq, Repr

/-- Why the machine stops with a fault. -/
inductive Fault where
  /-- Raised by `HWTICK` when `TICK_DIV` is 0, which R8 does not allow: the `TICK_DIV - 1` of R150 has no
  value there (log 12). Safe: no legal block has it. -/
  | dividerZero
deriving DecidableEq, Repr

/-- Why the machine refuses to go on. -/
inductive Refusal where
  /-- Raised by an arm of exec whose instruction has no meaning yet. Safe. -/
  | notModelled (mnemonic : String)
  /-- Raised by a logic tick at an unsettled slot whose speed is outside the step law's domain: R142 and
  93 U2 say "refuse" and forbid a result (log 11). Safe: no reachable state presents it (R41). -/
  | stepLawOutsideDomain
deriving DecidableEq, Repr

/-- The outcome of a transition. -/
abbrev Result := Host.Outcome State Fault Refusal

/-- The machine right after reset (R46), on a block with the spec's default parameters. The values of the
inputs and of the model's own fields are DESIGN CHOICES (log 9). -/
def State.reset : State where
  cfg := Config.default
  pw := []
  sv := []
  sw := []
  tickCount := 0
  trace := []
  cmd := none
  rsp := none
  hwTick := false
  rst := false
  lines := 0
  now := 0
  hostMark := false
  env := []
  freeCount := 0

end Sys2Proof.Machine
end

