-- ==== Sys2Proof/Machine/Flags.lean ====
section
/-! DEFINITION. The block's flags that are computed, not stored (10_state R33, 00_scope R13), and the
switch query's condition (44_query_commands R200, R202). -/

namespace Sys2Proof.Machine

/-- `settled_pw` of a slot (R13). -/
def settledPw (p : PwSlot) : Bool := p.current = p.target

/-- `settled_sv` of a slot (R13). The attach flag is not consulted (R192). -/
def settledSv (p : SvSlot) : Bool := p.currentAngle = p.targetAngle

/-- `allset_pw` (R13): over the registered slots, so true of an empty table (R193). -/
def allsetPw (s : State) : Bool := s.pw.all settledPw

/-- `allset_sv` (R13). -/
def allsetSv (s : State) : Bool := s.sv.all settledSv

/-- `held_ms`, the difference modulo `2^32` (R200, R10). -/
def heldMs (now pressTs : Time) : Time := now - pressTs

/-- The answer of `SW.ACTIVE` for a slot (R202). -/
def switchActive (now : Time) (hold : HoldMs) (p : SwSlot) : Bool :=
  p.latched && decide (hold.toNat ≤ (heldMs now p.pressTs).toNat)

end Sys2Proof.Machine
end

