-- ==== Sys2Proof/Machine/Operands.lean ====
section
/-! DEFINITION. The operand rules: the state multiplexer that selects a slot by (kind, channel id)
(40_registry R117) and the checks on the speed and angle operands (30_encoding R86, R87). -/

namespace Sys2Proof.Machine

/-- `n_pw` (R29). -/
def nPw (s : State) : Nat := s.pw.length

/-- `n_sv` (R29). -/
def nSv (s : State) : Nat := s.sv.length

/-- `n_sw` (R29). -/
def nSw (s : State) : Nat := s.sw.length

/-- Slot select in the pulse-width table: none exactly when `ch ≥ n_pw` (R117). -/
def selectPw (ch : ChanId) (s : State) : Option PwSlot := s.pw[ch.toNat]?

/-- Slot select in the servo table: none exactly when `ch ≥ n_sv` (R117). -/
def selectSv (ch : ChanId) (s : State) : Option SvSlot := s.sv[ch.toNat]?

/-- Slot select in the switch table: none exactly when `ch ≥ n_sw` (R117). -/
def selectSw (ch : ChanId) (s : State) : Option SwSlot := s.sw[ch.toNat]?

/-- A `speed` operand is legal iff it is `SPEED_MIN` = 1 to `SPEED_MAX` = 5 (R87). -/
def speedLegal (speed : SpeedCode) : Bool := 1 ≤ speed.toNat && speed.toNat ≤ 5

/-- An angle operand is legal iff it does not exceed `SV_ANGLE_MAX` (R86, R176). -/
def angleLegal (cfg : Config) (angle : Angle) : Bool := angle.toNat ≤ cfg.svAngleMax.toNat

end Sys2Proof.Machine
end

