-- ==== Sys2Proof/Machine/Ops.lean ====
section
/-! DEFINITION. The operations the meanings share: responding (30_encoding R95 to R97), raising an error,
which is the block's way of taking an exception (60_exceptions R210), holding a command (44 R190), and
writing a slot or an event. An error saves nothing and has no return (R223, R224). -/

namespace Sys2Proof.Machine

/-- The status codes of R96. -/
def statusCode (st : Status) : BitVec 4 :=
  match st with
  | .ok => 0
  | .capacityExceeded => 1
  | .invalidChannel => 2
  | .invalidSpeed => 3
  | .invalidValue => 4
  | .illegalCommand => 5

/-- The response word: status in 31:28, zeros, data in 7:0 (R95). -/
def responseWord (st : Status) (data : BitVec 8) : Word := statusCode st ++ 0#20 ++ data

/-- `respond(status, data)` (R12): the command is accepted, so it leaves the port, and its response is
produced in the same transition (R34). -/
def respond (st : Status) (data : BitVec 8) (s : State) : State :=
  { s with rsp := some (responseWord st data), cmd := none }

/-- The data byte of an error: 0xFF for `CapacityExceeded`, else 0 (R12, R97). -/
def errorData (st : Status) : BitVec 8 :=
  match st with
  | .capacityExceeded => 0xFF
  | .ok | .invalidChannel | .invalidSpeed | .invalidValue | .illegalCommand => 0

/-- The errors a model counts as faults of the host program (R212, R213, R215, 92 D36), all but
`CapacityExceeded`, which is an ordinary outcome (R211). -/
def blamesHost (st : Status) : Bool :=
  match st with
  | .ok | .capacityExceeded => false
  | .invalidChannel | .invalidSpeed | .invalidValue | .illegalCommand => true

/-- `raise <Error>` (R12, R210): the response of the error and no write to the block's state. The host
side's mark is the model's own and is never cleared (R214, log 13). -/
def raise (st : Status) (s : State) : State :=
  respond st (errorData st) { s with hostMark := s.hostMark || blamesHost st }

/-- A held command: not accepted, no response, no change (R190). -/
def holdCommand (s : State) : State := { s with rsp := none }

/-- `emit E` (R12). -/
def emit (e : Event) (s : State) : State := { s with trace := s.trace ++ [e] }

/-- The data byte of a truth value (R97). -/
def truthData (b : Bool) : BitVec 8 := if b then 1 else 0

/-- The data byte of a new channel id (R97). -/
def idData (id : Nat) : BitVec 8 := BitVec.ofNat 8 id

/-- `PW[ch] <- p` (R11). -/
def writePw (ch : ChanId) (p : PwSlot) (s : State) : State := { s with pw := s.pw.set ch.toNat p }

/-- `SV[ch] <- p` (R11). -/
def writeSv (ch : ChanId) (p : SvSlot) (s : State) : State := { s with sv := s.sv.set ch.toNat p }

/-- The new slot `PW[n_pw]`, the counter raised with it (R111). -/
def appendPw (p : PwSlot) (s : State) : State := { s with pw := s.pw ++ [p] }

/-- The new slot `SV[n_sv]` (R111). -/
def appendSv (p : SvSlot) (s : State) : State := { s with sv := s.sv ++ [p] }

/-- The new slot `SW[n_sw]` (R111). -/
def appendSw (p : SwSlot) (s : State) : State := { s with sw := s.sw ++ [p] }

end Sys2Proof.Machine
end

