-- ==== Sys2Proof/Machine/Motion.lean ====
section
/-! DEFINITION. The motion commands (43_motion_commands R170 to R178). None writes a `current`. -/

namespace Sys2Proof.Machine

/-- `PW.SET ch, value` (R171): the speed is left alone. -/
def execPwSet (ch : ChanId) (value : Level) (s : State) : Result :=
  match selectPw ch s with
  | none => .next (raise .invalidChannel s)
  | some p => .next (respond .ok 0 (writePw ch { p with target := value } s))

/-- `PW.FADE ch, value, speed` (R172): channel, then speed; both fields in one transition. -/
def execPwFade (ch : ChanId) (value : Level) (speed : SpeedCode) (s : State) : Result :=
  match selectPw ch s with
  | none => .next (raise .invalidChannel s)
  | some p =>
    if speedLegal speed then
      .next (respond .ok 0 (writePw ch { p with target := value, speed := speed } s))
    else .next (raise .invalidSpeed s)

/-- The re-attach of a detached servo, before the new target is accepted (R174, 90 C8): the event; the
flag is written with the slot. -/
def emitAttach (p : SvSlot) (s : State) : State :=
  if p.attached then s else emit (.svAttach p.pin) s

/-- `SV.MOVE ch, angle` (R174): channel, then value. -/
def execSvMove (ch : ChanId) (angle : Angle) (s : State) : Result :=
  match selectSv ch s with
  | none => .next (raise .invalidChannel s)
  | some p =>
    if angleLegal s.cfg angle then
      .next (respond .ok 0
        (writeSv ch { p with attached := true, targetAngle := angle } (emitAttach p s)))
    else .next (raise .invalidValue s)

/-- `SV.MOVES ch, angle, speed` (R175): channel, then speed, then value; three fields in one
transition. -/
def execSvMoves (ch : ChanId) (angle : Angle) (speed : SpeedCode) (s : State) : Result :=
  match selectSv ch s with
  | none => .next (raise .invalidChannel s)
  | some p =>
    if speedLegal speed then
      if angleLegal s.cfg angle then
        .next (respond .ok 0
          (writeSv ch { p with attached := true, targetAngle := angle, speed := speed }
            (emitAttach p s)))
      else .next (raise .invalidValue s)
    else .next (raise .invalidSpeed s)

/-- `SV.REST ch` (R177): an invalid channel is answered at once; else held until settled; then the
detach, with its event only if the slot was attached. -/
def execSvRest (ch : ChanId) (s : State) : Result :=
  match selectSv ch s with
  | none => .next (raise .invalidChannel s)
  | some p =>
    if settledSv p then
      if p.attached then
        .next (respond .ok 0 (emit (.svDetach p.pin) (writeSv ch { p with attached := false } s)))
      else .next (respond .ok 0 s)
    else .next (holdCommand s)

end Sys2Proof.Machine
end

