-- ==== Sys2Proof/Machine/Query.lean ====
section
/-! DEFINITION. The settled queries, the waits and the switch query (44_query_commands R190 to R202). None
writes any state of the block. -/

namespace Sys2Proof.Machine

/-- `PW.SETTLED ch` (R191). -/
def execPwSettled (ch : ChanId) (s : State) : Result :=
  match selectPw ch s with
  | none => .next (raise .invalidChannel s)
  | some p => .next (respond .ok (truthData (settledPw p)) s)

/-- `SV.SETTLED ch` (R192). -/
def execSvSettled (ch : ChanId) (s : State) : Result :=
  match selectSv ch s with
  | none => .next (raise .invalidChannel s)
  | some p => .next (respond .ok (truthData (settledSv p)) s)

/-- `PW.ALLSET` (R193). -/
def execPwAllset (s : State) : Result := .next (respond .ok (truthData (allsetPw s)) s)

/-- `SV.ALLSET` (R194). -/
def execSvAllset (s : State) : Result := .next (respond .ok (truthData (allsetSv s)) s)

/-- `PW.WAIT ch` (R195): an invalid wait is never held. -/
def execPwWait (ch : ChanId) (s : State) : Result :=
  match selectPw ch s with
  | none => .next (raise .invalidChannel s)
  | some p => if settledPw p then .next (respond .ok 0 s) else .next (holdCommand s)

/-- `SV.WAIT ch` (R196). -/
def execSvWait (ch : ChanId) (s : State) : Result :=
  match selectSv ch s with
  | none => .next (raise .invalidChannel s)
  | some p => if settledSv p then .next (respond .ok 0 s) else .next (holdCommand s)

/-- `PW.WAITALL` (R197). -/
def execPwWaitall (s : State) : Result :=
  if allsetPw s then .next (respond .ok 0 s) else .next (holdCommand s)

/-- `SV.WAITALL` (R198). It detaches nothing. -/
def execSvWaitall (s : State) : Result :=
  if allsetSv s then .next (respond .ok 0 s) else .next (holdCommand s)

/-- `SW.ACTIVE ch, hold` (R202): reads the latch and the clock, not the line (R201). -/
def execSwActive (ch : ChanId) (hold : HoldMs) (s : State) : Result :=
  match selectSw ch s with
  | none => .next (raise .invalidChannel s)
  | some p => .next (respond .ok (truthData (switchActive s.now hold p)) s)

end Sys2Proof.Machine
end

