-- ==== Sys2Proof/Machine/Registry.lean ====
section
/-! DEFINITION. The registration commands `REG.PW`, `REG.SV`, `REG.SW` (40_registry R111 to R116). The
`aux` operand is carried by the word and has no effect (30_encoding R88). -/

namespace Sys2Proof.Machine

/-- The initial pulse-width slot (R112). -/
def initialPw (cfg : Config) (pin : Pin) : PwSlot :=
  { pin := pin, current := Config.pwNeutral, target := Config.pwNeutral, speed := cfg.pwSpeedReset }

/-- The initial servo slot (R113). -/
def initialSv (cfg : Config) (pin : Pin) : SvSlot :=
  { pin := pin, currentAngle := Config.svNeutral, targetAngle := Config.svNeutral,
    speed := cfg.svSpeedReset, attached := cfg.svAttachAtReg }

/-- The initial switch slot: the sentinel (R114). -/
def initialSw (pin : Pin) : SwSlot := { pin := pin, latched := false, pressTs := 0 }

/-- `REG.PW pin[, aux]` (R111, R112). The table is full when the counter has reached the capacity; no
reachable state has more slots than that (R41, log 10). -/
def execRegPw (pin : Pin) (_aux : BitVec 8) (s : State) : Result :=
  if s.cfg.capPw ≤ nPw s then .next (raise .capacityExceeded s)
  else .next (respond .ok (idData (nPw s))
    (emit (.pinMode pin .out) (appendPw (initialPw s.cfg pin) s)))

/-- `REG.SV pin[, aux]` (R111, R113): `SvAttach` after `PinMode` when `SV_ATTACH_AT_REG` is 1. -/
def execRegSv (pin : Pin) (_aux : BitVec 8) (s : State) : Result :=
  if s.cfg.capSv ≤ nSv s then .next (raise .capacityExceeded s)
  else
    let t := emit (.pinMode pin .out) (appendSv (initialSv s.cfg pin) s)
    .next (respond .ok (idData (nSv s))
      (if s.cfg.svAttachAtReg then emit (.svAttach pin) t else t))

/-- `REG.SW pin[, aux]` (R111, R114). The line is not sampled. -/
def execRegSw (pin : Pin) (_aux : BitVec 8) (s : State) : Result :=
  if s.cfg.capSw ≤ nSw s then .next (raise .capacityExceeded s)
  else .next (respond .ok (idData (nSw s))
    (emit (.pinMode pin .inp) (appendSw (initialSw pin) s)))

end Sys2Proof.Machine
end

