-- ==== Sys2Proof/Machine/Dispatch.lean ====
section
/-! DEFINITION. The command agent's transition for a decoded command: one arm per row of
spec/opcode_table.json (30_encoding R84). -/

namespace Sys2Proof.Machine

def exec (i : Instr) (s : State) : Host.Outcome State Fault Refusal :=
  match i with
  | .regPw pin aux => Sys2Proof.Machine.execRegPw pin aux s
  | .regSv pin aux => Sys2Proof.Machine.execRegSv pin aux s
  | .regSw pin aux => Sys2Proof.Machine.execRegSw pin aux s
  | .pwSet ch value => Sys2Proof.Machine.execPwSet ch value s
  | .svMove ch angle => Sys2Proof.Machine.execSvMove ch angle s
  | .pwFade ch value speed => Sys2Proof.Machine.execPwFade ch value speed s
  | .svMoves ch angle speed => Sys2Proof.Machine.execSvMoves ch angle speed s
  | .pwSettled ch => Sys2Proof.Machine.execPwSettled ch s
  | .svSettled ch => Sys2Proof.Machine.execSvSettled ch s
  | .pwAllset => Sys2Proof.Machine.execPwAllset s
  | .svAllset => Sys2Proof.Machine.execSvAllset s
  | .pwWait ch => Sys2Proof.Machine.execPwWait ch s
  | .svWait ch => Sys2Proof.Machine.execSvWait ch s
  | .pwWaitall => Sys2Proof.Machine.execPwWaitall s
  | .svWaitall => Sys2Proof.Machine.execSvWaitall s
  | .svRest ch => Sys2Proof.Machine.execSvRest ch s
  | .swActive ch hold => Sys2Proof.Machine.execSwActive ch hold s

end Sys2Proof.Machine
end

