-- ==== Sys2Proof/Machine/Ports.lean ====
section
/-! DEFINITION. The ports: which commands hold (44_query_commands R190), `cmd_ready` (10_state R34), whose
move it is (20_memory R68, 60_exceptions R221), the reset (R46, R240), the surroundings' move (R15, R35,
R36) and the level outputs (R37, R38). -/

namespace Sys2Proof.Machine

/-- The holding condition of a command is false: it is held (R190). A command with an invalid channel
and every other command is never held (R195, R177). -/
def held (i : Instr) (s : State) : Bool :=
  match i with
  | .pwWait ch => match selectPw ch s with
    | none => false
    | some p => !settledPw p
  | .svWait ch => match selectSv ch s with
    | none => false
    | some p => !settledSv p
  | .svRest ch => match selectSv ch s with
    | none => false
    | some p => !settledSv p
  | .pwWaitall => !allsetPw s
  | .svWaitall => !allsetSv s
  | .regPw _ _ | .regSv _ _ | .regSw _ _ | .pwSet _ _ | .svMove _ _ | .pwFade _ _ _ => false
  | .svMoves _ _ _ | .pwSettled _ | .svSettled _ | .pwAllset | .svAllset | .swActive _ _ => false

/-- The word is not a holding command whose condition is false; an illegal word is never held (R91). -/
def wordReady (w : Word) (s : State) : Bool :=
  match decode w with
  | .ok i => !held i s
  | .error _ => true

/-- `cmd_ready`: 0 exactly while the presented command is a holding command whose condition is false
(R34). -/
def cmdReady (s : State) : Bool :=
  match s.cmd with
  | none => true
  | some w => wordReady w s

/-- Whose move it is. -/
inductive Turn where
  | reset
  | tick
  | command (w : Word)
  | environment
deriving DecidableEq, Repr

/-- The word that is accepted if the command agent moves now: presented and ready (R34). -/
def acceptable (s : State) : Option Word :=
  match s.cmd with
  | none => none
  | some w => if wordReady w s then some w else none

/-- Reset first (log 8); a tick and an acceptable command of one cycle in the order of `ARB` (R221);
otherwise the one of them that is there; otherwise the cycle is over and the surroundings move
(log 5). -/
def turn (s : State) : Turn :=
  if s.rst then .reset
  else match acceptable s with
    | none => if s.hwTick then .tick else .environment
    | some w => if s.hwTick && decide (s.cfg.arb = .tickFirst) then .tick else .command w

/-- The reset transition (R46, R240, R241): counters 0, no slot registered, empty trace. The parameters,
the surroundings' inputs and a command held on the port stay; a strobe of the same cycle is lost
(log 8). -/
def resetMove (s : State) : State :=
  { s with
    pw := [], sv := [], sw := [], tickCount := 0, trace := [], rsp := none, rst := false, hwTick := false }

/-- The surroundings present the inputs of the next cycle. A word already on the port stays there: the
host does not withdraw or change it and can issue nothing else (R34, R190, log 7). -/
def present (i : EnvInput) (s : State) : State :=
  { s with
    rst := i.rst, hwTick := i.hwTick, cmd := s.cmd.or i.cmd, lines := i.lines, now := s.now + i.advance,
    rsp := none }

/-- The surroundings' move: the next listed input, or a free one when none is listed (log 6). -/
def environmentMove (s : State) : State :=
  match s.env with
  | i :: rest => present i { s with env := rest }
  | [] => present (Config.freeInput s.freeCount) { s with freeCount := s.freeCount + 1 }

/-- The pulse-width outputs: pin and level of every registered slot (R37). -/
def pwOutputs (s : State) : List (Pin × Level) := s.pw.map fun p => (p.pin, p.current)

/-- The servo outputs: pin, attach flag and angle of every registered slot (R38). -/
def svOutputs (s : State) : List (Pin × Bool × Angle) :=
  s.sv.map fun p => (p.pin, p.attached, p.currentAngle)

end Sys2Proof.Machine
end

