-- ==== Sys2Proof/Machine/Fetch.lean ====
section
/-! DEFINITION. The command agent's move on an accepted word: decode, then execute (30_encoding R90). There
is no fetch; the host hands the word over the port (20_memory R75). -/

namespace Sys2Proof.Machine

/-- An accepted word: its command's transition, or `IllegalCommand` (R90, R91, R220). -/
def runWord (w : Word) (s : State) : Result :=
  match decode w with
  | .ok i => exec i s
  | .error _ => .next (raise .illegalCommand s)

/-- The host presents `w` and nothing else happens in that cycle. -/
def presentWord (w : Word) (s : State) : State :=
  { s with cmd := some w, hwTick := false, rst := false }

end Sys2Proof.Machine
end

