-- ==== Sys2Proof/Machine/StepLaw.lean ====
section
/-! DEFINITION. The step law (41_step_law): two pure functions, partial outside their domain (R142,
93 U2: a model makes them partial and picks no result). -/

namespace Sys2Proof.Machine

/-- `STEP[spd]` = `1 << (spd - 1)` for the codes 1 to 5 (R133); the table is not extended to 0, 6, 7
(R142). -/
def stepSize (speed : SpeedCode) : Option (BitVec 8) :=
  if 1 ≤ speed.toNat ∧ speed.toNat ≤ 5 then some (1#8 <<< (speed.toNat - 1)) else none

/-- `|tgt - cur|`, which never wraps (R10, R134). -/
def distance (cur tgt : BitVec 8) : BitVec 8 := if cur.toNat ≤ tgt.toNat then tgt - cur else cur - tgt

/-- One move of `step` toward the target (R130 items 4 and 5). -/
def moveToward (cur tgt step : BitVec 8) : BitVec 8 :=
  if cur.toNat < tgt.toNat then cur + step else cur - step

/-- The pulse-width clamp (R135): the comparison is strict. -/
def clampPw (dist step : BitVec 8) : BitVec 8 := if dist.toNat < step.toNat then 1 else step

/-- The servo clamp (R136). -/
def clampSv (dist step : BitVec 8) : BitVec 8 := if dist.toNat < step.toNat then dist else step

/-- `StepPW(cur, tgt, spd)` (R137). -/
def stepPw (cur tgt : Level) (speed : SpeedCode) : Option Level :=
  if cur = tgt then some cur
  else if speed = 0 then some tgt
  else (stepSize speed).map fun step => moveToward cur tgt (clampPw (distance cur tgt) step)

/-- `StepSV(cur, tgt, spd)` (R138): a servo has no snap mode. -/
def stepSv (cur tgt : Angle) (speed : SpeedCode) : Option Angle :=
  if cur = tgt then some cur
  else (stepSize speed).map fun step => moveToward cur tgt (clampSv (distance cur tgt) step)

end Sys2Proof.Machine
end

