-- ==== Sys2Proof/Machine/Tick.lean ====
section
/-! DEFINITION. The tick agent (42_tick_scheduler): `SV.UPDATE`, `SW.LATCH`, `PW.UPDATE`, the logic tick
and the hardware tick, which is the block's one interrupt and its own handler (60_exceptions R216). -/

namespace Sys2Proof.Machine

/-- `SV.UPDATE` of one slot and the events it emits (R154); none where the step law is undefined (R142).
The attach flag is not read (R155). -/
def updateSv (p : SvSlot) : Option (SvSlot × List Event) :=
  if settledSv p then some (p, [])
  else (stepSv p.currentAngle p.targetAngle p.speed).map fun nxt =>
    ({ p with currentAngle := nxt }, [.svWrite p.pin nxt])

/-- `PW.UPDATE` of one slot and the events it emits (R157). -/
def updatePw (p : PwSlot) : Option (PwSlot × List Event) :=
  if settledPw p then some (p, [])
  else (stepPw p.current p.target p.speed).map fun nxt =>
    ({ p with current := nxt }, [.pwWrite p.pin nxt])

/-- `Line(p)` (R12, R35). -/
def lineOf (lines : Lines) (p : Pin) : Bool := lines.getLsbD p.toNat

/-- `SW.LATCH` of one slot, `t` the tick's one read of the clock (R156, R153). -/
def latchSw (lines : Lines) (t : Time) (p : SwSlot) : SwSlot :=
  if lineOf lines p.pin then
    if p.latched then p else { p with latched := true, pressTs := t }
  else { p with latched := false, pressTs := 0 }

/-- The servo phase: slots in ascending order, events in that order (R152, R70). -/
def scanSv (l : List SvSlot) : Option (List SvSlot × List Event) :=
  match l with
  | [] => some ([], [])
  | p :: rest =>
    match updateSv p, scanSv rest with
    | some (p', e), some (rest', es) => some (p' :: rest', e ++ es)
    | _, _ => none

/-- The pulse-width phase: slots in ascending order, events in that order (R152, R70). -/
def scanPw (l : List PwSlot) : Option (List PwSlot × List Event) :=
  match l with
  | [] => some ([], [])
  | p :: rest =>
    match updatePw p, scanPw rest with
    | some (p', e), some (rest', es) => some (p' :: rest', e ++ es)
    | _, _ => none

/-- `LOGICTICK` (R152): servo phase, switch phase, pulse-width phase, in one transition (R67). -/
def logicTick (s : State) : Result :=
  match scanSv s.sv, scanPw s.pw with
  | some (sv', svEvents), some (pw', pwEvents) =>
    .next { s with
      sv := sv', sw := s.sw.map (latchSw s.lines s.now), pw := pw',
      trace := s.trace ++ svEvents ++ pwEvents }
  | _, _ => .refused .stepLawOutsideDomain

/-- `HWTICK` (R150). -/
def hwTickOp (s : State) : Result :=
  if s.cfg.tickDiv = 0 then .fault .dividerZero
  else if s.tickCount = s.cfg.tickDiv - 1 then logicTick { s with tickCount := 0 }
  else .next { s with tickCount := s.tickCount + 1 }

/-- The tick agent's move: the strobe is taken in the cycle it arrives (R218); a tick produces no
response (R158). -/
def tickMove (s : State) : Result := hwTickOp { s with hwTick := false, rsp := none }

end Sys2Proof.Machine
end

