-- ==== Sys2Proof/Machine/Step.lean ====
section
/-! DEFINITION. One step of the machine: one move of one agent (00_scope R5, R15; log 5). -/

namespace Sys2Proof.Machine

/-- The move of the agent whose turn it is. -/
def step (s : State) : Host.Outcome State Fault Refusal :=
  match turn s with
  | .reset => .next (resetMove s)
  | .tick => tickMove s
  | .command w => runWord w s
  | .environment => .next (environmentMove s)

/-- `s` with the command word whose low `nbits` bits are `w` on the command port, so that the next step
is that command's (log 17). -/
def State.withFetchWord (s : State) (nbits w : Nat) : State :=
  presentWord (BitVec.ofNat 32 (w % 2 ^ nbits)) s

end Sys2Proof.Machine
end

