-- ==== Sys2Proof/Safety.lean ====
section
/-! DEFINITION. What counts as a good state and a safe run: the invariants of every reachable state
(10_state R41, R43, R44) and the host side's misuse mark (60_exceptions R214). -/

namespace Sys2Proof.Machine

/-- R41 for a pulse-width slot. -/
abbrev PwSlot.Ok (p : PwSlot) : Prop := p.speed.toNat ≤ 5

/-- R41 and R43 for a servo slot. -/
abbrev SvSlot.Ok (cfg : Config) (p : SvSlot) : Prop :=
  (1 ≤ p.speed.toNat ∧ p.speed.toNat ≤ 5) ∧ p.currentAngle.toNat ≤ cfg.svAngleMax.toNat ∧
  p.targetAngle.toNat ≤ cfg.svAngleMax.toNat ∧
  (p.attached = false → p.currentAngle = p.targetAngle)

/-- R44 for a switch slot, the part that one state shows: an unlatched slot holds timestamp 0. -/
abbrev SwSlot.Ok (p : SwSlot) : Prop := p.latched = false → p.pressTs = 0

/-- The invariants of every reachable state (R41, R43, R44), on a block with legal parameters (R8). -/
abbrev State.Inv (s : State) : Prop :=
  s.cfg.Legal ∧
  (s.pw.length ≤ s.cfg.capPw ∧ s.sv.length ≤ s.cfg.capSv ∧ s.sw.length ≤ s.cfg.capSw) ∧
  s.tickCount < s.cfg.tickDiv ∧
  (∀ p ∈ s.pw, PwSlot.Ok p) ∧ (∀ p ∈ s.sv, SvSlot.Ok s.cfg p) ∧ (∀ p ∈ s.sw, SwSlot.Ok p)

/-- No command of the run so far was answered with an error that a model counts as the host program's
fault (R214, 93 U1 and U2). -/
abbrev State.HostClean (s : State) : Prop := s.hostMark = false

/-- A run that has not stopped and whose host program has misused nothing. -/
def SafeRun (k : Nat) (s : State) : Prop :=
  ∃ t, Host.Core.run Sys2Proof.core k s = .next t ∧ t.HostClean

end Sys2Proof.Machine
end

