-- ==== Sys2Proof/Certificates/Slice0/Obligations.lean ====
section
/-! DEFINITION. The statements about the block, from the spec's numbered rules. The words they share come
first, under Sys2Proof.Claims; each is written from the spec and not from the model's own operations. -/

namespace Sys2Proof.Claims

open Sys2Proof.Machine

/-- The command is answered `w` and leaves the port; nothing else changes (R12, R34). -/
abbrev answered (s : State) (w : Word) : State := { s with rsp := some w, cmd := none }

/-- The command is answered with an error that a model counts as the host program's fault; nothing of
the block changes (R210; the mark is the model's own, log 13). -/
abbrev rejected (s : State) (w : Word) : State :=
  { s with rsp := some w, cmd := none, hostMark := true }

/-- The command is held: it stays on the port and gets no response (R190). -/
abbrev waiting (s : State) : State := { s with rsp := none }

/-- The block's own state (tables, counters, divider, trace) and its parameters are the same. -/
abbrev BlockSame (s t : State) : Prop :=
  t.cfg = s.cfg ∧ t.pw = s.pw ∧ t.sv = s.sv ∧ t.sw = s.sw ∧ t.tickCount = s.tickCount ∧ t.trace = s.trace

/-- A row of R84: match, mask, and the command of a word of the row, its operands taken from the bits
that the pattern's letters mark. -/
structure Row where
  value : Word
  mask : Word
  command : Word → Instr

/-- The complete command list (R84). -/
def rows : List Row := [
  ⟨0x10000000, 0xFFFF0000, fun w => .regPw (w.extractLsb' 0 8) (w.extractLsb' 8 8)⟩,
  ⟨0x14000000, 0xFFFF0000, fun w => .regSv (w.extractLsb' 0 8) (w.extractLsb' 8 8)⟩,
  ⟨0x18000000, 0xFFFF0000, fun w => .regSw (w.extractLsb' 0 8) (w.extractLsb' 8 8)⟩,
  ⟨0x20000000, 0xFF0FFF00, fun w => .pwSet (w.extractLsb' 20 4) (w.extractLsb' 0 8)⟩,
  ⟨0x24000000, 0xFF0FFF00, fun w => .svMove (w.extractLsb' 20 4) (w.extractLsb' 0 8)⟩,
  ⟨0x30000000, 0xFF0FF800, fun w =>
    .pwFade (w.extractLsb' 20 4) (w.extractLsb' 0 8) (w.extractLsb' 8 3)⟩,
  ⟨0x34000000, 0xFF0FF800, fun w =>
    .svMoves (w.extractLsb' 20 4) (w.extractLsb' 0 8) (w.extractLsb' 8 3)⟩,
  ⟨0x40000000, 0xFF0FFFFF, fun w => .pwSettled (w.extractLsb' 20 4)⟩,
  ⟨0x44000000, 0xFF0FFFFF, fun w => .svSettled (w.extractLsb' 20 4)⟩,
  ⟨0x50000000, 0xFFFFFFFF, fun _ => .pwAllset⟩,
  ⟨0x54000000, 0xFFFFFFFF, fun _ => .svAllset⟩,
  ⟨0x60000000, 0xFF0FFFFF, fun w => .pwWait (w.extractLsb' 20 4)⟩,
  ⟨0x64000000, 0xFF0FFFFF, fun w => .svWait (w.extractLsb' 20 4)⟩,
  ⟨0x70000000, 0xFFFFFFFF, fun _ => .pwWaitall⟩,
  ⟨0x74000000, 0xFFFFFFFF, fun _ => .svWaitall⟩,
  ⟨0x84000000, 0xFF0FFFFF, fun w => .svRest (w.extractLsb' 20 4)⟩,
  ⟨0x98000000, 0xFF0F0000, fun w => .swActive (w.extractLsb' 20 4) (w.extractLsb' 0 16)⟩]

/-- The words of R101 and the commands they are. -/
def workedEncodings : List (Word × Instr) := [
  (0x10000009, .regPw 9 0), (0x1400000A, .regSv 10 0), (0x18000002, .regSw 2 0),
  (0x14000B0A, .regSv 10 11), (0x200000FF, .pwSet 0 255), (0x300003C8, .pwFade 0 200 3),
  (0x30700510, .pwFade 7 16 5), (0x2400005A, .svMove 0 90), (0x3400010A, .svMoves 0 10 1),
  (0x343004B4, .svMoves 3 180 4), (0x40000000, .pwSettled 0), (0x44100000, .svSettled 1),
  (0x50000000, .pwAllset), (0x54000000, .svAllset), (0x60200000, .pwWait 2), (0x64000000, .svWait 0),
  (0x70000000, .pwWaitall), (0x74000000, .svWaitall), (0x84000000, .svRest 0),
  (0x98000064, .swActive 0 100)]

/-- `|tgt - cur|` (R10). -/
def gap (cur tgt : BitVec 8) : Nat :=
  if cur.toNat ≤ tgt.toNat then tgt.toNat - cur.toNat else cur.toNat - tgt.toNat

/-- The table of R140, pulse-width rows: how many applications a ramp takes. -/
def countPw (cur tgt : Level) (speed : SpeedCode) : Nat :=
  if speed = 0 then (if 0 < gap cur tgt then 1 else 0)
  else gap cur tgt / 2 ^ (speed.toNat - 1) + gap cur tgt % 2 ^ (speed.toNat - 1)

/-- The table of R140, servo row. -/
def countSv (cur tgt : Angle) (speed : SpeedCode) : Nat :=
  gap cur tgt / 2 ^ (speed.toNat - 1) + (if gap cur tgt % 2 ^ (speed.toNat - 1) = 0 then 0 else 1)

/-- `k` applications of StepPW from `cur`. -/
def rampPw (tgt : Level) (speed : SpeedCode) : Nat → Level → Option Level
  | 0, cur => some cur
  | k + 1, cur => (stepPw cur tgt speed).bind (rampPw tgt speed k)

/-- `k` applications of StepSV from `cur`. -/
def rampSv (tgt : Angle) (speed : SpeedCode) : Nat → Angle → Option Angle
  | 0, cur => some cur
  | k + 1, cur => (stepSv cur tgt speed).bind (rampSv tgt speed k)

/-- `k` hardware ticks, one after the other, with no command between them. -/
def hwTicks : Nat → State → Result
  | 0, s => .next s
  | k + 1, s => match hwTickOp s with
    | .next t => hwTicks k t
    | .fault f => .fault f
    | .refused r => .refused r

/-- `k` logic ticks, one after the other, with no command between them. -/
def logicTicks : Nat → State → Result
  | 0, s => .next s
  | k + 1, s => match logicTick s with
    | .next t => logicTicks k t
    | .fault f => .fault f
    | .refused r => .refused r

/-- The slots of the three tables keep their pins, and none is lost (R45). -/
abbrev KeepsSlots (s t : State) : Prop :=
  (∀ (j : Nat) (p : PwSlot), s.pw[j]? = some p → ∃ q, t.pw[j]? = some q ∧ q.pin = p.pin) ∧
  (∀ (j : Nat) (p : SvSlot), s.sv[j]? = some p → ∃ q, t.sv[j]? = some q ∧ q.pin = p.pin) ∧
  (∀ (j : Nat) (p : SwSlot), s.sw[j]? = some p → ∃ q, t.sw[j]? = some q ∧ q.pin = p.pin)

/-- The holding commands (R190), and that the condition of one of them is false in `s`. -/
abbrev ConditionFalse (i : Instr) (s : State) : Prop :=
  (∃ ch p, i = .pwWait ch ∧ s.pw[ch.toNat]? = some p ∧ p.current ≠ p.target) ∨
  (∃ ch p, (i = .svWait ch ∨ i = .svRest ch) ∧ s.sv[ch.toNat]? = some p ∧
    p.currentAngle ≠ p.targetAngle) ∨
  (i = .pwWaitall ∧ ∃ p ∈ s.pw, p.current ≠ p.target) ∨
  (i = .svWaitall ∧ ∃ p ∈ s.sv, p.currentAngle ≠ p.targetAngle)

/-- The event a servo slot emits in a logic tick (R154, R39). -/
def servoEvent (p : SvSlot) : List Event :=
  if p.currentAngle = p.targetAngle then []
  else match stepSv p.currentAngle p.targetAngle p.speed with
    | some nxt => [.svWrite p.pin nxt]
    | none => []

/-- The event a pulse-width slot emits in a logic tick (R157, R39). -/
def levelEvent (p : PwSlot) : List Event :=
  if p.current = p.target then []
  else match stepPw p.current p.target p.speed with
    | some nxt => [.pwWrite p.pin nxt]
    | none => []

/-- A switch slot after the logic ticks whose samples (lines and clock) are listed, oldest first. -/
def latched (p : SwSlot) (samples : List (Lines × Time)) : SwSlot :=
  samples.foldl (fun q x => latchSw x.1 x.2 q) p

end Sys2Proof.Claims

open Sys2Proof Sys2Proof.Machine Sys2Proof.Claims

/-! ### The commands -/

/-- R112, R113, R114 by the common procedure R111. -/
def Obligations.RegistrationAppendsOneSlotOrReportsCapacity : Prop :=
  (∀ w : Word, w &&& 0xFFFF0000#32 = 0x10000000#32 →
    decode w = .ok (.regPw (w.extractLsb' 0 8) (w.extractLsb' 8 8))) ∧
  (∀ w : Word, w &&& 0xFFFF0000#32 = 0x14000000#32 →
    decode w = .ok (.regSv (w.extractLsb' 0 8) (w.extractLsb' 8 8))) ∧
  (∀ w : Word, w &&& 0xFFFF0000#32 = 0x18000000#32 →
    decode w = .ok (.regSw (w.extractLsb' 0 8) (w.extractLsb' 8 8))) ∧
  ∀ (s : State) (pin : Pin) (aux : BitVec 8), s.cfg.Legal →
    (s.pw.length = s.cfg.capPw → exec (.regPw pin aux) s = .next (answered s 0x100000FF#32)) ∧
    (s.pw.length < s.cfg.capPw → exec (.regPw pin aux) s =
      .next { answered s (BitVec.ofNat 32 s.pw.length) with
        pw := s.pw ++ [⟨pin, 0, 0, s.cfg.pwSpeedReset⟩],
        trace := s.trace ++ [.pinMode pin .out] }) ∧
    (s.sv.length = s.cfg.capSv → exec (.regSv pin aux) s = .next (answered s 0x100000FF#32)) ∧
    (s.sv.length < s.cfg.capSv → exec (.regSv pin aux) s =
      .next { answered s (BitVec.ofNat 32 s.sv.length) with
        sv := s.sv ++ [⟨pin, 90, 90, s.cfg.svSpeedReset, s.cfg.svAttachAtReg⟩],
        trace := s.trace ++ ([.pinMode pin .out] ++
          if s.cfg.svAttachAtReg then [.svAttach pin] else []) }) ∧
    (s.sw.length = s.cfg.capSw → exec (.regSw pin aux) s = .next (answered s 0x100000FF#32)) ∧
    (s.sw.length < s.cfg.capSw → exec (.regSw pin aux) s =
      .next { answered s (BitVec.ofNat 32 s.sw.length) with
        sw := s.sw ++ [⟨pin, false, 0⟩],
        trace := s.trace ++ [.pinMode pin .inp] })

/-- R171, R172: nothing but the named fields of the one slot changes; an error changes nothing. -/
def Obligations.PulseWidthCommandsWriteTargetAndSpeedOnly : Prop :=
  (∀ w : Word, w &&& 0xFF0FFF00#32 = 0x20000000#32 →
    decode w = .ok (.pwSet (w.extractLsb' 20 4) (w.extractLsb' 0 8))) ∧
  (∀ w : Word, w &&& 0xFF0FF800#32 = 0x30000000#32 →
    decode w = .ok (.pwFade (w.extractLsb' 20 4) (w.extractLsb' 0 8) (w.extractLsb' 8 3))) ∧
  ∀ (s : State) (ch : ChanId) (value : Level) (speed : SpeedCode),
    (s.pw.length ≤ ch.toNat →
      exec (.pwSet ch value) s = .next (rejected s 0x20000000#32) ∧
      exec (.pwFade ch value speed) s = .next (rejected s 0x20000000#32)) ∧
    ∀ p, s.pw[ch.toNat]? = some p →
      exec (.pwSet ch value) s =
        .next { answered s 0 with pw := s.pw.set ch.toNat { p with target := value } } ∧
      ((speed.toNat < 1 ∨ 5 < speed.toNat) →
        exec (.pwFade ch value speed) s = .next (rejected s 0x30000000#32)) ∧
      (1 ≤ speed.toNat → speed.toNat ≤ 5 → exec (.pwFade ch value speed) s =
        .next { answered s 0 with
          pw := s.pw.set ch.toNat { p with target := value, speed := speed } })

/-- R174, R175, R176: the attach, the target and the speed in one transition. -/
def Obligations.ServoMovesAttachAndSetTarget : Prop :=
  (∀ w : Word, w &&& 0xFF0FFF00#32 = 0x24000000#32 →
    decode w = .ok (.svMove (w.extractLsb' 20 4) (w.extractLsb' 0 8))) ∧
  (∀ w : Word, w &&& 0xFF0FF800#32 = 0x34000000#32 →
    decode w = .ok (.svMoves (w.extractLsb' 20 4) (w.extractLsb' 0 8) (w.extractLsb' 8 3))) ∧
  ∀ (s : State) (ch : ChanId) (angle : Angle) (speed : SpeedCode),
    (s.sv.length ≤ ch.toNat →
      exec (.svMove ch angle) s = .next (rejected s 0x20000000#32) ∧
      exec (.svMoves ch angle speed) s = .next (rejected s 0x20000000#32)) ∧
    ∀ p, s.sv[ch.toNat]? = some p →
      (s.cfg.svAngleMax.toNat < angle.toNat →
        exec (.svMove ch angle) s = .next (rejected s 0x40000000#32)) ∧
      (angle.toNat ≤ s.cfg.svAngleMax.toNat → exec (.svMove ch angle) s =
        .next { answered s 0 with
          sv := s.sv.set ch.toNat { p with attached := true, targetAngle := angle },
          trace := s.trace ++ if p.attached then [] else [.svAttach p.pin] }) ∧
      ((speed.toNat < 1 ∨ 5 < speed.toNat) →
        exec (.svMoves ch angle speed) s = .next (rejected s 0x30000000#32)) ∧
      (1 ≤ speed.toNat → speed.toNat ≤ 5 → s.cfg.svAngleMax.toNat < angle.toNat →
        exec (.svMoves ch angle speed) s = .next (rejected s 0x40000000#32)) ∧
      (1 ≤ speed.toNat → speed.toNat ≤ 5 → angle.toNat ≤ s.cfg.svAngleMax.toNat →
        exec (.svMoves ch angle speed) s =
          .next { answered s 0 with
            sv := s.sv.set ch.toNat { p with attached := true, targetAngle := angle, speed := speed },
            trace := s.trace ++ if p.attached then [] else [.svAttach p.pin] })

/-- R177. -/
def Obligations.RestDetachesOnceSettled : Prop :=
  (∀ w : Word, w &&& 0xFF0FFFFF#32 = 0x84000000#32 → decode w = .ok (.svRest (w.extractLsb' 20 4))) ∧
  ∀ (s : State) (ch : ChanId),
    (s.sv.length ≤ ch.toNat → exec (.svRest ch) s = .next (rejected s 0x20000000#32)) ∧
    ∀ p, s.sv[ch.toNat]? = some p →
      (p.currentAngle ≠ p.targetAngle → exec (.svRest ch) s = .next (waiting s)) ∧
      (p.currentAngle = p.targetAngle → exec (.svRest ch) s =
        .next { answered s 0 with
          sv := s.sv.set ch.toNat { p with attached := false },
          trace := s.trace ++ if p.attached then [.svDetach p.pin] else [] })

/-- R191, R192. -/
def Obligations.SettledQueriesCompareCurrentWithTarget : Prop :=
  (∀ w : Word, w &&& 0xFF0FFFFF#32 = 0x40000000#32 →
    decode w = .ok (.pwSettled (w.extractLsb' 20 4))) ∧
  (∀ w : Word, w &&& 0xFF0FFFFF#32 = 0x44000000#32 →
    decode w = .ok (.svSettled (w.extractLsb' 20 4))) ∧
  ∀ (s : State) (ch : ChanId),
    (s.pw.length ≤ ch.toNat → exec (.pwSettled ch) s = .next (rejected s 0x20000000#32)) ∧
    (∀ p, s.pw[ch.toNat]? = some p →
      exec (.pwSettled ch) s = .next (answered s (if p.current = p.target then 1 else 0))) ∧
    (s.sv.length ≤ ch.toNat → exec (.svSettled ch) s = .next (rejected s 0x20000000#32)) ∧
    (∀ p, s.sv[ch.toNat]? = some p →
      exec (.svSettled ch) s = .next (answered s (if p.currentAngle = p.targetAngle then 1 else 0)))

/-- R193, R194: an empty table counts as settled. -/
def Obligations.AllsetQueriesScanRegisteredSlots : Prop :=
  (∀ w : Word, w &&& 0xFFFFFFFF#32 = 0x50000000#32 → decode w = .ok .pwAllset) ∧
  (∀ w : Word, w &&& 0xFFFFFFFF#32 = 0x54000000#32 → decode w = .ok .svAllset) ∧
  ∀ s : State,
    ((∀ p ∈ s.pw, p.current = p.target) → exec .pwAllset s = .next (answered s 1)) ∧
    ((∃ p ∈ s.pw, p.current ≠ p.target) → exec .pwAllset s = .next (answered s 0)) ∧
    ((∀ p ∈ s.sv, p.currentAngle = p.targetAngle) → exec .svAllset s = .next (answered s 1)) ∧
    ((∃ p ∈ s.sv, p.currentAngle ≠ p.targetAngle) → exec .svAllset s = .next (answered s 0))

/-- R195, R196: an invalid wait is never held. -/
def Obligations.WaitsHoldUntilTheChannelIsSettled : Prop :=
  (∀ w : Word, w &&& 0xFF0FFFFF#32 = 0x60000000#32 → decode w = .ok (.pwWait (w.extractLsb' 20 4))) ∧
  (∀ w : Word, w &&& 0xFF0FFFFF#32 = 0x64000000#32 → decode w = .ok (.svWait (w.extractLsb' 20 4))) ∧
  ∀ (s : State) (ch : ChanId),
    (s.pw.length ≤ ch.toNat → exec (.pwWait ch) s = .next (rejected s 0x20000000#32)) ∧
    (∀ p, s.pw[ch.toNat]? = some p →
      (p.current = p.target → exec (.pwWait ch) s = .next (answered s 0)) ∧
      (p.current ≠ p.target → exec (.pwWait ch) s = .next (waiting s))) ∧
    (s.sv.length ≤ ch.toNat → exec (.svWait ch) s = .next (rejected s 0x20000000#32)) ∧
    (∀ p, s.sv[ch.toNat]? = some p →
      (p.currentAngle = p.targetAngle → exec (.svWait ch) s = .next (answered s 0)) ∧
      (p.currentAngle ≠ p.targetAngle → exec (.svWait ch) s = .next (waiting s)))

/-- R197, R198. -/
def Obligations.WaitallHoldsUntilEverySlotIsSettled : Prop :=
  (∀ w : Word, w &&& 0xFFFFFFFF#32 = 0x70000000#32 → decode w = .ok .pwWaitall) ∧
  (∀ w : Word, w &&& 0xFFFFFFFF#32 = 0x74000000#32 → decode w = .ok .svWaitall) ∧
  ∀ s : State,
    ((∀ p ∈ s.pw, p.current = p.target) → exec .pwWaitall s = .next (answered s 0)) ∧
    ((∃ p ∈ s.pw, p.current ≠ p.target) → exec .pwWaitall s = .next (waiting s)) ∧
    ((∀ p ∈ s.sv, p.currentAngle = p.targetAngle) → exec .svWaitall s = .next (answered s 0)) ∧
    ((∃ p ∈ s.sv, p.currentAngle ≠ p.targetAngle) → exec .svWaitall s = .next (waiting s))

/-- R202 with R200: latched, and held modulo `2^32` for at least `hold` milliseconds. -/
def Obligations.SwitchQueryTestsLatchAndHoldTime : Prop :=
  (∀ w : Word, w &&& 0xFF0F0000#32 = 0x98000000#32 →
    decode w = .ok (.swActive (w.extractLsb' 20 4) (w.extractLsb' 0 16))) ∧
  ∀ (s : State) (ch : ChanId) (hold : HoldMs),
    (s.sw.length ≤ ch.toNat → exec (.swActive ch hold) s = .next (rejected s 0x20000000#32)) ∧
    (∀ p, s.sw[ch.toNat]? = some p →
      exec (.swActive ch hold) s = .next (answered s
        (if p.latched = true ∧ hold.setWidth 32 ≤ s.now - p.pressTs then 1 else 0)))

/-! ### Encoding -/

/-- No bit of an encoding is dropped: decoding an encoded command gives it back. -/
def Obligations.DecodeOfEncodeIsTheInstruction : Prop :=
  ∀ i : Instr, decode (encode i) = .ok i

/-- A command has one word only. -/
def Obligations.EncodeOfDecodeIsTheWord : Prop :=
  ∀ (w : Word) (i : Instr), decode w = .ok i → encode i = w

/-- R84, and the totality of R90. -/
def Obligations.DecoderFollowsMatchAndMask : Prop :=
  (∀ r ∈ rows, ∀ w : Word, w &&& r.mask = r.value → decode w = .ok (r.command w)) ∧
  (∀ (w : Word) (i : Instr), decode w = .ok i →
    ∃ r ∈ rows, w &&& r.mask = r.value ∧ i = r.command w) ∧
  (∀ r ∈ rows, ∀ r' ∈ rows, ∀ w : Word, w &&& r.mask = r.value → w &&& r'.mask = r'.value →
    r.value = r'.value)

/-- R92 and R93. -/
def Obligations.ReservedEncodingsAreRejected : Prop :=
  (∀ w : Word, w.extractLsb' 24 8 ∈ ([0x28, 0x38, 0x48, 0x58, 0x68, 0x78, 0x80, 0x88, 0x90, 0x94] :
    List (BitVec 8)) → ∃ e, decode w = .error e) ∧
  (∀ w : Word, w.extractLsb' 26 2 = 3#2 → ∃ e, decode w = .error e) ∧
  (∀ w : Word, w.extractLsb' 24 2 ≠ 0#2 ∨ w.extractLsb' 16 4 ≠ 0#4 → ∃ e, decode w = .error e) ∧
  (∀ w : Word, w.extractLsb' 28 4 ∈ ([1, 5, 7] : List (BitVec 4)) → w.extractLsb' 20 4 ≠ 0#4 →
    ∃ e, decode w = .error e) ∧
  (∀ w : Word, w.extractLsb' 28 4 = 2#4 → w.extractLsb' 8 8 ≠ 0#8 → ∃ e, decode w = .error e) ∧
  (∀ w : Word, w.extractLsb' 28 4 = 3#4 → w.extractLsb' 11 5 ≠ 0#5 → ∃ e, decode w = .error e) ∧
  (∀ w : Word, w.extractLsb' 28 4 ∈ ([4, 5, 6, 7, 8] : List (BitVec 4)) → w.extractLsb' 0 16 ≠ 0#16 →
    ∃ e, decode w = .error e)

/-- The decoder and WellFormed, written apart, agree on every word. -/
def Obligations.DecoderAcceptsExactlyWellFormedFields : Prop :=
  ∀ w : Word, (∃ i, decode w = .ok i) ↔ (split w).wellFormed = true

/-- R101 whole: the worked words both ways, the three illegal ones, and the responses. -/
def Obligations.WorkedEncodingsAgreeWithTheSpec : Prop :=
  (∀ x ∈ workedEncodings, decode x.1 = .ok x.2 ∧ encode x.2 = x.1) ∧
  (∀ w ∈ ([0x00000000, 0x48000000, 0x20010000] : List Word), ∀ s : State,
    runWord w s = .next (rejected s 0x50000000#32)) ∧
  responseWord .ok 0 = 0x00000000#32 ∧ responseWord .ok 7 = 0x00000007#32 ∧
  responseWord .ok (truthData true) = 0x00000001#32 ∧
  responseWord .ok (truthData false) = 0x00000000#32 ∧
  responseWord .capacityExceeded (errorData .capacityExceeded) = 0x100000FF#32 ∧
  responseWord .invalidChannel (errorData .invalidChannel) = 0x20000000#32 ∧
  responseWord .invalidSpeed (errorData .invalidSpeed) = 0x30000000#32 ∧
  responseWord .invalidValue (errorData .invalidValue) = 0x40000000#32 ∧
  responseWord .illegalCommand (errorData .illegalCommand) = 0x50000000#32

/-- R91, R220, and R94: a word outside the list of R84 is answered status 5 and changes nothing. -/
def Obligations.WordsOutsideTheListAreIllegal : Prop :=
  ∀ (s : State) (w : Word), (∀ r ∈ rows, w &&& r.mask ≠ r.value) →
    runWord w s = .next (rejected s 0x50000000#32) ∧
    (s.cmd = some w → s.rst = false → s.hwTick = false →
      cmdReady s = true ∧ step s = .next (rejected s 0x50000000#32))

/-! ### Errors and responses -/

/-- R210 with its list: an error writes no state and emits no event, and each error is raised by the
commands of its row, under its condition, with its data. -/
def Obligations.ErrorsWriteNothing : Prop :=
  ∀ (i : Instr) (s t : State) (r : Word), exec i s = .next t → t.rsp = some r →
    r.extractLsb' 28 4 ≠ 0#4 →
    BlockSame s t ∧
    ((r = 0x100000FF#32 ∧
        ((∃ pin aux, i = .regPw pin aux ∧ s.cfg.capPw ≤ s.pw.length) ∨
         (∃ pin aux, i = .regSv pin aux ∧ s.cfg.capSv ≤ s.sv.length) ∨
         (∃ pin aux, i = .regSw pin aux ∧ s.cfg.capSw ≤ s.sw.length))) ∨
     (r = 0x20000000#32 ∧
        ((∃ ch : ChanId, s.pw.length ≤ ch.toNat ∧ (i = .pwSettled ch ∨ i = .pwWait ch ∨
            (∃ v, i = .pwSet ch v) ∨ (∃ v sp, i = .pwFade ch v sp))) ∨
         (∃ ch : ChanId, s.sv.length ≤ ch.toNat ∧ (i = .svSettled ch ∨ i = .svWait ch ∨ i = .svRest ch ∨
            (∃ a, i = .svMove ch a) ∨ (∃ a sp, i = .svMoves ch a sp))) ∨
         (∃ (ch : ChanId) (h : HoldMs), s.sw.length ≤ ch.toNat ∧ i = .swActive ch h))) ∨
     (r = 0x30000000#32 ∧ ∃ (ch : ChanId) (v : BitVec 8) (sp : SpeedCode),
        (sp.toNat = 0 ∨ sp.toNat = 6 ∨ sp.toNat = 7) ∧ (i = .pwFade ch v sp ∨ i = .svMoves ch v sp)) ∨
     (r = 0x40000000#32 ∧ ∃ (ch : ChanId) (a : Angle), s.cfg.svAngleMax.toNat < a.toNat ∧
        (i = .svMove ch a ∨ ∃ sp, i = .svMoves ch a sp)))

/-- R219: decode, channel, speed, value; a holding command makes its checks before it holds. -/
def Obligations.OnlyTheFirstErrorIsReported : Prop :=
  (∀ (s : State) (w : Word), (∃ e, decode w = .error e) →
    runWord w s = .next (rejected s 0x50000000#32)) ∧
  (∀ (s : State) (ch : ChanId) (v : BitVec 8) (sp : SpeedCode), s.sv.length ≤ ch.toNat →
    exec (.svMoves ch v sp) s = .next (rejected s 0x20000000#32) ∧
    exec (.svMove ch v) s = .next (rejected s 0x20000000#32) ∧
    exec (.svRest ch) s = .next (rejected s 0x20000000#32) ∧
    exec (.svWait ch) s = .next (rejected s 0x20000000#32) ∧
    held (.svRest ch) s = false ∧ held (.svWait ch) s = false) ∧
  (∀ (s : State) (ch : ChanId) (v : BitVec 8) (sp : SpeedCode), s.pw.length ≤ ch.toNat →
    exec (.pwFade ch v sp) s = .next (rejected s 0x20000000#32) ∧
    exec (.pwWait ch) s = .next (rejected s 0x20000000#32) ∧ held (.pwWait ch) s = false) ∧
  (∀ (s : State) (ch : ChanId) (v : BitVec 8) (sp : SpeedCode), ch.toNat < s.sv.length →
    (sp.toNat < 1 ∨ 5 < sp.toNat) → exec (.svMoves ch v sp) s = .next (rejected s 0x30000000#32)) ∧
  (∀ (s : State) (w : Word) (pin : Pin) (aux : BitVec 8), decode w = .ok (.regPw pin aux) →
    s.pw.length = s.cfg.capPw → runWord w s = .next (answered s 0x100000FF#32)) ∧
  (∀ (s : State) (w : Word) (pin : Pin) (aux : BitVec 8), decode w = .ok (.regSv pin aux) →
    s.sv.length = s.cfg.capSv → runWord w s = .next (answered s 0x100000FF#32)) ∧
  (∀ (s : State) (w : Word) (pin : Pin) (aux : BitVec 8), decode w = .ok (.regSw pin aux) →
    s.sw.length = s.cfg.capSw → runWord w s = .next (answered s 0x100000FF#32)) ∧
  (∀ s : State, s.sv = [] → runWord 0x340000C8#32 s = .next (rejected s 0x20000000#32))

/-- R95, R96: exactly one response for an accepted command, none for a held one. -/
def Obligations.AcceptedCommandsGetExactlyOneResponse : Prop :=
  ∀ (w : Word) (s t : State), runWord w s = .next t →
    (wordReady w s = true → t.cmd = none ∧ ∃ r : Word, t.rsp = some r ∧ r.extractLsb' 8 20 = 0#20 ∧
      (r.extractLsb' 28 4).toNat ≤ 5) ∧
    (wordReady w s = false → t.cmd = s.cmd ∧ t.rsp = none)

/-- R214: after an error the next command is served as if the failed one had never been issued. Only the
model's host-side mark, which no command reads, tells the two apart. -/
def Obligations.NothingIsRememberedOfAnError : Prop :=
  ∀ (i : Instr) (s t : State) (r : Word), exec i s = .next t → t.rsp = some r →
    r.extractLsb' 28 4 ≠ 0#4 →
    ∀ k : Instr, held k t = held k s ∧
      (held k s = false → ∃ u, exec k s = .next u ∧
        exec k t = .next { u with hostMark := u.hostMark || t.hostMark })

/-- The model's host-side mark (log 13): set by an answer with status 2 to 5, and never cleared. -/
def Obligations.HostMarkRecordsMisuseForEver : Prop :=
  ∀ s t : State, step s = .next t →
    (s.hostMark = true → t.hostMark = true) ∧
    (s.hostMark = false →
      (t.hostMark = true ↔ ∃ r : Word, t.rsp = some r ∧ 2 ≤ (r.extractLsb' 28 4).toNat))

/-! ### Whose move it is -/

/-- A presented command that is not held runs in the next step, unless the reset or a tick that ARB puts
first is there (the model's steps, log 5). -/
def Obligations.StepRunsThePresentedCommand : Prop :=
  (∀ (s : State) (w : Word) (i : Instr), s.cmd = some w → decode w = .ok i → s.rst = false →
    (s.hwTick = false ∨ s.cfg.arb = .cmdFirst) → held i s = false → step s = exec i s) ∧
  (∀ (s : State) (nbits v : Nat) (i : Instr), decodeTableWord nbits v = some i →
    held i s = false → step (s.withFetchWord nbits v) = exec i (s.withFetchWord nbits v)) ∧
  (∀ (nbits v : Nat) (i : Instr), decodeTableWord nbits v = some i →
    step (State.reset.withFetchWord nbits v) = exec i (State.reset.withFetchWord nbits v))

/-- R190: `cmd_ready` is 0 exactly while a presented holding command's condition is false; then the
command is not accepted, gets no response and changes nothing; only a logic tick lifts a hold. -/
def Obligations.HeldCommandWaitsForALogicTick : Prop :=
  (∀ s : State, cmdReady s = false ↔
    ∃ w i, s.cmd = some w ∧ decode w = .ok i ∧ ConditionFalse i s) ∧
  (∀ s : State, cmdReady s = false → s.rst = false → s.hwTick = false →
    ∃ t, step s = .next t ∧ BlockSame s t ∧ t.cmd = s.cmd ∧ t.rsp = none) ∧
  (∀ s t : State, cmdReady s = false → s.rst = false → step s = .next t →
    t.cmd = s.cmd ∧ t.rsp = none ∧
    (cmdReady t = true → s.hwTick = true ∧ s.tickCount = s.cfg.tickDiv - 1)) ∧
  (∀ (s : State) (w : Word), s.cmd = some w → cmdReady s = true → s.rst = false →
    (s.hwTick = false ∨ s.cfg.arb = .cmdFirst) → step s = runWord w s ∧
    ∀ t, step s = .next t → t.cmd = none ∧ ∃ r, t.rsp = some r)

/-- The host's side of R34, as the model builds it in (log 7): a word stays on the port until it is
answered, and a response comes only with an acceptance. -/
def Obligations.PresentedWordStaysUntilAnswered : Prop :=
  ∀ s t : State, step s = .next t →
    (∀ w, s.cmd = some w → (t.cmd = some w ∧ t.rsp = none) ∨ (t.cmd = none ∧ ∃ r, t.rsp = some r)) ∧
    (∀ r, t.rsp = some r → ∃ w, s.cmd = some w ∧ wordReady w s = true)

/-- R221: a tick and an acceptable command of one cycle both take place, in the order of ARB. A tick that
goes first does not make the command wait: settled slots stay settled (R42). -/
def Obligations.CoincidentTickAndCommandFollowArb : Prop :=
  ∀ (s t : State) (w : Word), s.cmd = some w → cmdReady s = true → s.rst = false → s.hwTick = true →
    (s.cfg.arb = .tickFirst → step s = tickMove s ∧
      (step s = .next t → t.cmd = some w ∧ t.hwTick = false ∧ cmdReady t = true ∧
        step t = runWord w t)) ∧
    (s.cfg.arb = .cmdFirst → step s = runWord w s ∧
      (step s = .next t → t.cmd = none ∧ t.hwTick = true ∧ step t = tickMove t))

/-- The surroundings' move (R15, R35, R36): the next listed input, or the free one when none is listed
(log 6), taken when neither agent can move; the clock moves on by the input's advance, and nothing of
the block changes. -/
def Obligations.SurroundingsOnlyChangeInputs : Prop :=
  ∀ s : State, s.rst = false → s.hwTick = false → (s.cmd = none ∨ cmdReady s = false) →
    ∃ (t : State) (i : EnvInput), step s = .next t ∧ BlockSame s t ∧ t.hostMark = s.hostMark ∧
      t.rsp = none ∧
      ((s.env = i :: t.env ∧ t.freeCount = s.freeCount) ∨
       (s.env = [] ∧ t.env = [] ∧ i = Config.freeInput s.freeCount ∧ t.freeCount = s.freeCount + 1)) ∧
      t.now = s.now + i.advance ∧ t.lines = i.lines ∧ t.hwTick = i.hwTick ∧ t.rst = i.rst ∧
      (∀ w, s.cmd = some w → t.cmd = some w) ∧ (s.cmd = none → t.cmd = i.cmd)

/-! ### Reset -/

/-- R46, R240: the values the spec gives for reset, at power-on and for the reset input in any state. -/
def Obligations.ResetEmptiesTheBlock : Prop :=
  (State.reset.pw = [] ∧ State.reset.sv = [] ∧ State.reset.sw = [] ∧ State.reset.tickCount = 0 ∧
    State.reset.trace = [] ∧ cmdReady State.reset = true ∧ pwOutputs State.reset = [] ∧
    svOutputs State.reset = []) ∧
  ∀ s : State, s.rst = true → ∃ t, step s = .next t ∧ t.pw = [] ∧ t.sv = [] ∧ t.sw = [] ∧
    t.tickCount = 0 ∧ t.trace = [] ∧ cmdReady t = true ∧ pwOutputs t = [] ∧ svOutputs t = [] ∧
    t.cfg = s.cfg

/-- R241: a command held across a reset is examined again in the reset state. That a reset leaves every
word on the port, a ready one too, and that no tick comes before that word's transition, is the model's
choice (log 8). -/
def Obligations.HeldCommandIsReexaminedAfterReset : Prop :=
  (∀ s : State, s.rst = true → ∃ t, step s = .next t ∧ t.cmd = s.cmd ∧
    ∀ w, s.cmd = some w → step t = runWord w t) ∧
  (∀ (s : State) (w : Word) (i : Instr), s.rst = true → s.cmd = some w → decode w = .ok i →
    ConditionFalse i s →
    ∃ t, step s = .next t ∧
      ((i = .pwWaitall ∨ i = .svWaitall) → step t = .next (answered t 0)) ∧
      (i ≠ .pwWaitall → i ≠ .svWaitall → step t = .next (rejected t 0x20000000#32)))

/-! ### The step law -/

/-- R139. -/
def Obligations.StepLawNeverOvershoots : Prop :=
  (∀ (cur tgt : Level) (speed : SpeedCode), speed.toNat ≤ 5 → ∃ nxt, stepPw cur tgt speed = some nxt ∧
    (cur.toNat < tgt.toNat → cur.toNat < nxt.toNat ∧ nxt.toNat ≤ tgt.toNat) ∧
    (tgt.toNat < cur.toNat → tgt.toNat ≤ nxt.toNat ∧ nxt.toNat < cur.toNat) ∧
    (cur = tgt → nxt = cur)) ∧
  (∀ (cur tgt : Angle) (speed : SpeedCode), 1 ≤ speed.toNat → speed.toNat ≤ 5 →
    ∃ nxt, stepSv cur tgt speed = some nxt ∧
    (cur.toNat < tgt.toNat → cur.toNat < nxt.toNat ∧ nxt.toNat ≤ tgt.toNat) ∧
    (tgt.toNat < cur.toNat → tgt.toNat ≤ nxt.toNat ∧ nxt.toNat < cur.toNat) ∧
    (cur = tgt → nxt = cur))

/-- R140: a ramp reaches its target after exactly the counted number of applications, not before, and
then stays. -/
def Obligations.RampsConvergeInTheCountedApplications : Prop :=
  (∀ (cur tgt : Level) (speed : SpeedCode), speed.toNat ≤ 5 → ∀ k : Nat,
    ∃ v, rampPw tgt speed k cur = some v ∧ (v = tgt ↔ countPw cur tgt speed ≤ k)) ∧
  (∀ (cur tgt : Angle) (speed : SpeedCode), 1 ≤ speed.toNat → speed.toNat ≤ 5 → ∀ k : Nat,
    ∃ v, rampSv tgt speed k cur = some v ∧ (v = tgt ↔ countSv cur tgt speed ≤ k))

/-- R133, R135 and R136 by the distance and the direction moved: a full step while the distance allows it,
else one unit (pulse-width) or the exact remaining distance (servo). -/
def Obligations.StepMagnitudeIsFullUntilClamped : Prop :=
  ∀ (cur tgt : BitVec 8) (speed : SpeedCode), cur ≠ tgt → 1 ≤ speed.toNat → speed.toNat ≤ 5 →
    ∃ a b, stepPw cur tgt speed = some a ∧ stepSv cur tgt speed = some b ∧
      (2 ^ (speed.toNat - 1) ≤ gap cur tgt →
        gap cur a = 2 ^ (speed.toNat - 1) ∧ gap cur b = 2 ^ (speed.toNat - 1)) ∧
      (gap cur tgt < 2 ^ (speed.toNat - 1) → gap cur a = 1 ∧ b = tgt) ∧
      (cur.toNat < tgt.toNat ↔ cur.toNat < a.toNat) ∧ (cur.toNat < tgt.toNat ↔ cur.toNat < b.toNat)

/-- R134: the law is symmetric, up and down. -/
def Obligations.StepLawIsSymmetric : Prop :=
  ∀ (cur tgt : BitVec 8) (speed : SpeedCode),
    stepPw (255 - cur) (255 - tgt) speed = (stepPw cur tgt speed).map (255 - ·) ∧
    stepSv (255 - cur) (255 - tgt) speed = (stepSv cur tgt speed).map (255 - ·)

/-- R131, R132, R142: settled, snap, and where the functions are not defined. -/
def Obligations.StepLawDomain : Prop :=
  (∀ (v : BitVec 8) (speed : SpeedCode), stepPw v v speed = some v ∧ stepSv v v speed = some v) ∧
  (∀ cur tgt : Level, cur ≠ tgt → stepPw cur tgt 0 = some tgt) ∧
  (∀ (cur tgt : BitVec 8) (speed : SpeedCode), cur ≠ tgt →
    (stepPw cur tgt speed = none ↔ speed = 6 ∨ speed = 7) ∧
    (stepSv cur tgt speed = none ↔ speed = 0 ∨ speed = 6 ∨ speed = 7))

/-! ### The tick agent -/

/-- R150, R151: the divider, and exactly one logic tick in TICK_DIV hardware ticks, from any phase; and a
strobe is such a hardware tick (R150's trigger, R217, R218): the step takes it whenever no acceptable
command goes before it (which step that is, is the model's, log 5; after a command that goes first, R221
has its own statement). -/
def Obligations.OneLogicTickPerDivisorTicks : Prop :=
  (∀ s : State, s.rst = false → s.hwTick = true →
    (s.cmd = none ∨ cmdReady s = false ∨ s.cfg.arb = .tickFirst) →
    step s = hwTickOp { s with hwTick := false, rsp := none }) ∧
  (∀ s : State, tickMove s = hwTickOp { s with hwTick := false, rsp := none }) ∧
  (∀ s : State, 1 ≤ s.cfg.tickDiv → s.tickCount = s.cfg.tickDiv - 1 →
    hwTickOp s = logicTick { s with tickCount := 0 }) ∧
  (∀ s : State, s.tickCount < s.cfg.tickDiv - 1 →
    hwTickOp s = .next { s with tickCount := s.tickCount + 1 }) ∧
  (∀ s : State, s.tickCount < s.cfg.tickDiv → hwTicks s.cfg.tickDiv s = logicTick s) ∧
  (∀ (s : State) (k : Nat), s.tickCount + k < s.cfg.tickDiv →
    hwTicks k s = .next { s with tickCount := s.tickCount + k })

/-- R152, R154, R156, R157: every registered slot is visited exactly once, what becomes of it, what is
emitted, and that nothing else changes. -/
def Obligations.LogicTickUpdatesEverySlotOnce : Prop :=
  ∀ s : State, s.Inv → ∃ t, logicTick s = .next t ∧
    t.sv.length = s.sv.length ∧ t.sw.length = s.sw.length ∧ t.pw.length = s.pw.length ∧
    (∀ (j : Nat) (p : SvSlot), s.sv[j]? = some p →
      ∃ nxt, stepSv p.currentAngle p.targetAngle p.speed = some nxt ∧
        t.sv[j]? = some { p with currentAngle := nxt }) ∧
    (∀ (j : Nat) (p : SwSlot), s.sw[j]? = some p →
      (s.lines.getLsbD p.pin.toNat = false → t.sw[j]? = some ⟨p.pin, false, 0⟩) ∧
      (s.lines.getLsbD p.pin.toNat = true → p.latched = false → t.sw[j]? = some ⟨p.pin, true, s.now⟩) ∧
      (s.lines.getLsbD p.pin.toNat = true → p.latched = true → t.sw[j]? = some p)) ∧
    (∀ (j : Nat) (p : PwSlot), s.pw[j]? = some p →
      ∃ nxt, stepPw p.current p.target p.speed = some nxt ∧ t.pw[j]? = some { p with current := nxt }) ∧
    t = { s with
      sv := t.sv, sw := t.sw, pw := t.pw,
      trace := s.trace ++ s.sv.flatMap servoEvent ++ s.pw.flatMap levelEvent }

/-- R70: the events of a logic tick, servo slots in index order, then pulse-width slots in index order;
a settled slot emits nothing (R39). -/
def Obligations.LogicTickEventsFollowTableOrder : Prop :=
  ∀ s t : State, logicTick s = .next t →
    t.trace = s.trace ++ s.sv.flatMap servoEvent ++ s.pw.flatMap levelEvent

/-- R160. -/
def Obligations.LogicTickOfEmptyTablesDoesNothing : Prop :=
  (∀ s : State, s.pw = [] → s.sv = [] → s.sw = [] → logicTick s = .next s) ∧
  logicTick State.reset = .next State.reset

/-- R155, R43: the servo phase leaves a detached servo alone. -/
def Obligations.DetachedServoIsLeftAlone : Prop :=
  ∀ (s t : State) (j : Nat) (p : SvSlot), s.Inv → s.sv[j]? = some p → p.attached = false →
    tickMove s = .next t → t.sv[j]? = some p ∧ servoEvent p = []

/-- R44, over the samples of any number of logic ticks since the slot's registration: latched iff the
last sample was active, and then the timestamp is the clock at the first sample of the unbroken run
of active samples that ends there. -/
def Obligations.LatchRecordsTheStartOfTheActiveRun : Prop :=
  ∀ (pin : Pin) (samples : List (Lines × Time)),
    let q := latched ⟨pin, false, 0⟩ samples
    q.pin = pin ∧
    (q.latched = true ↔ ∃ x, samples.getLast? = some x ∧ x.1.getLsbD pin.toNat = true) ∧
    (q.latched = false → q.pressTs = 0) ∧
    (q.latched = true → ∃ before first run, samples = before ++ first :: run ∧
      (∀ x ∈ first :: run, x.1.getLsbD pin.toNat = true) ∧
      (∀ x, before.getLast? = some x → x.1.getLsbD pin.toNat = false) ∧ q.pressTs = first.2)

/-- R72, R202: asked again later with no logic tick between, the switch query can only turn from false to
true, as long as the hold has not reached `2^32` milliseconds (R254). -/
def Obligations.SwitchQueryOnlyTurnsTrue : Prop :=
  ∀ (s t : State) (ch : ChanId) (hold : HoldMs) (p : SwSlot) (d : Time),
    s.sw[ch.toNat]? = some p → (s.now - p.pressTs).toNat + d.toNat < 2 ^ 32 →
    exec (.swActive ch hold) s = .next t → t.rsp = some 1#32 →
    ∃ u, exec (.swActive ch hold) { s with now := s.now + d } = .next u ∧ u.rsp = some 1#32

/-- R159: the hardware tick in which a commanded channel settles, and no earlier one. -/
def Obligations.ChannelSettlesInTheCountedHardwareTick : Prop :=
  ∀ (s : State) (m : Nat), s.Inv → ∃ t, hwTicks m s = .next t ∧
    (∀ (j : Nat) (p : PwSlot), s.pw[j]? = some p → p.current ≠ p.target →
      ∃ q, t.pw[j]? = some q ∧ (q.current = q.target ↔
        (s.cfg.tickDiv - s.tickCount) + (countPw p.current p.target p.speed - 1) * s.cfg.tickDiv ≤ m)) ∧
    (∀ (j : Nat) (p : SvSlot), s.sv[j]? = some p → p.currentAngle ≠ p.targetAngle →
      ∃ q, t.sv[j]? = some q ∧ (q.currentAngle = q.targetAngle ↔
        (s.cfg.tickDiv - s.tickCount) + (countSv p.currentAngle p.targetAngle p.speed - 1) * s.cfg.tickDiv
          ≤ m))

/-- R199: after how many logic ticks each holding command is ready. -/
def Obligations.HoldsEndAfterTheCountedLogicTicks : Prop :=
  ∀ (s : State) (k : Nat), s.Inv → ∃ t, logicTicks k s = .next t ∧
    (∀ (ch : ChanId) (p : PwSlot), s.pw[ch.toNat]? = some p →
      (wordReady (encode (.pwWait ch)) t = true ↔ countPw p.current p.target p.speed ≤ k)) ∧
    (∀ (ch : ChanId) (p : SvSlot), s.sv[ch.toNat]? = some p →
      (wordReady (encode (.svWait ch)) t = true ↔
        countSv p.currentAngle p.targetAngle p.speed ≤ k) ∧
      (wordReady (encode (.svRest ch)) t = true ↔
        countSv p.currentAngle p.targetAngle p.speed ≤ k)) ∧
    (wordReady (encode .pwWaitall) t = true ↔
      ∀ p ∈ s.pw, countPw p.current p.target p.speed ≤ k) ∧
    (wordReady (encode .svWaitall) t = true ↔
      ∀ p ∈ s.sv, countSv p.currentAngle p.targetAngle p.speed ≤ k)

/-! ### The whole machine -/

/-- R69, R222: which agent and which command may write which field of a registered slot. -/
def Obligations.EachFieldHasASingleWriter : Prop :=
  (∀ s t : State, tickMove s = .next t →
    t.pw.length = s.pw.length ∧ t.sv.length = s.sv.length ∧ t.sw.length = s.sw.length ∧
    (∀ (j : Nat) (p : PwSlot), s.pw[j]? = some p →
      ∃ cur, t.pw[j]? = some { p with current := cur }) ∧
    (∀ (j : Nat) (p : SvSlot), s.sv[j]? = some p →
      ∃ cur, t.sv[j]? = some { p with currentAngle := cur }) ∧
    (∀ (j : Nat) (p : SwSlot), s.sw[j]? = some p →
      ∃ l ts, t.sw[j]? = some { p with latched := l, pressTs := ts })) ∧
  (∀ (i : Instr) (s t : State), exec i s = .next t →
    t.tickCount = s.tickCount ∧
    (t.pw.length = s.pw.length ∨ (t.pw.length = s.pw.length + 1 ∧ ∃ pin aux, i = .regPw pin aux)) ∧
    (t.sv.length = s.sv.length ∨ (t.sv.length = s.sv.length + 1 ∧ ∃ pin aux, i = .regSv pin aux)) ∧
    (t.sw.length = s.sw.length ∨ (t.sw.length = s.sw.length + 1 ∧ ∃ pin aux, i = .regSw pin aux)) ∧
    (∀ (j : Nat) (p : PwSlot), s.pw[j]? = some p → ∃ tgt sp,
      t.pw[j]? = some { p with target := tgt, speed := sp } ∧
      (tgt ≠ p.target → ∃ (ch : ChanId) (v : Level), ch.toNat = j ∧
        (i = .pwSet ch v ∨ ∃ x, i = .pwFade ch v x)) ∧
      (sp ≠ p.speed → ∃ (ch : ChanId) (v : Level) (x : SpeedCode), ch.toNat = j ∧ i = .pwFade ch v x)) ∧
    (∀ (j : Nat) (p : SvSlot), s.sv[j]? = some p → ∃ tgt sp att,
      t.sv[j]? = some { p with targetAngle := tgt, speed := sp, attached := att } ∧
      (tgt ≠ p.targetAngle → ∃ (ch : ChanId) (a : Angle), ch.toNat = j ∧
        (i = .svMove ch a ∨ ∃ x, i = .svMoves ch a x)) ∧
      (sp ≠ p.speed → ∃ (ch : ChanId) (a : Angle) (x : SpeedCode), ch.toNat = j ∧ i = .svMoves ch a x) ∧
      (att ≠ p.attached → ∃ ch : ChanId, ch.toNat = j ∧
        (i = .svRest ch ∨ (∃ a, i = .svMove ch a) ∨ (∃ a x, i = .svMoves ch a x)))) ∧
    (∀ (j : Nat) (p : SwSlot), s.sw[j]? = some p → t.sw[j]? = some p))

/-- R250, R170: a command moves no output and emits no write event. -/
def Obligations.CommandsMoveNothing : Prop :=
  ∀ (i : Instr) (s t : State), exec i s = .next t →
    (∀ (j : Nat) x, (pwOutputs s)[j]? = some x → (pwOutputs t)[j]? = some x) ∧
    (∀ (j : Nat) (pin : Pin) (att : Bool) (a : Angle), (svOutputs s)[j]? = some (pin, att, a) →
      ∃ att', (svOutputs t)[j]? = some (pin, att', a)) ∧
    (∃ events, t.trace = s.trace ++ events ∧
      ∀ e ∈ events, (∀ p a, e ≠ .svWrite p a) ∧ (∀ p v, e ≠ .pwWrite p v))

/-- R45, R118, and the trace of R39: without a reset no slot is lost, no pin changes, the counters never
decrease, and no event is taken back. -/
def Obligations.RegistryOnlyGrows : Prop :=
  ∀ s t : State, step s = .next t → s.rst = false →
    KeepsSlots s t ∧ s.pw.length ≤ t.pw.length ∧ s.sv.length ≤ t.sv.length ∧
    s.sw.length ≤ t.sw.length ∧ ∃ events, t.trace = s.trace ++ events

/-- R31: no transition writes a parameter. -/
def Obligations.NoTransitionWritesAParameter : Prop :=
  ∀ s t : State, step s = .next t → t.cfg = s.cfg

/-- R42: a settled channel stays settled until a command changes its target. -/
def Obligations.SettledChannelsStaySettled : Prop :=
  ∀ s t : State, step s = .next t → s.rst = false →
    (∀ (j : Nat) (p q : PwSlot), s.pw[j]? = some p → t.pw[j]? = some q → p.current = p.target →
      q.target = p.target → q.current = q.target) ∧
    (∀ (j : Nat) (p q : SvSlot), s.sv[j]? = some p → t.sv[j]? = some q →
      p.currentAngle = p.targetAngle → q.targetAngle = p.targetAngle → q.currentAngle = q.targetAngle)

/-- R255, R26: an actuator is detached only by an accepted `SV.REST` of its channel, and only settled. -/
def Obligations.DetachOnlyByRestAndOnlySettled : Prop :=
  ∀ (s t : State) (j : Nat) (p q : SvSlot), step s = .next t → s.rst = false → s.sv[j]? = some p →
    t.sv[j]? = some q → p.attached = true → q.attached = false →
    p.currentAngle = p.targetAngle ∧ q = { p with attached := false } ∧
    ∃ (w : Word) (ch : ChanId), s.cmd = some w ∧ decode w = .ok (.svRest ch) ∧ ch.toNat = j

/-- R257, R173: a pulse-width channel whose speed is not 0 never gets speed 0 back. -/
def Obligations.FadedChannelNeverSnapsAgain : Prop :=
  (∀ (s t : State) (j : Nat) (p q : PwSlot), step s = .next t → s.rst = false → s.pw[j]? = some p →
    t.pw[j]? = some q → p.speed ≠ 0 → q.speed ≠ 0) ∧
  (∀ (s : State) (ch : ChanId) (v : Level) (sp : SpeedCode) (t : State) (q : PwSlot),
    exec (.pwFade ch v sp) s = .next t → t.rsp = some 0#32 → t.pw[ch.toNat]? = some q → q.speed ≠ 0)

/-- The invariant holds right after reset, whatever the legal parameters. -/
def Obligations.ResetStateMeetsTheInvariant : Prop :=
  State.reset.Inv ∧ ∀ c : Config, c.Legal → State.Inv { State.reset with cfg := c }

/-- R41, R43, and the one-state part of R44: every step keeps the invariant. -/
def Obligations.EveryStepKeepsTheInvariant : Prop :=
  ∀ s t : State, s.Inv → step s = .next t → t.Inv

/-- R158: in a state that meets the invariant no step stops, and a tick is never held and answers
nothing. -/
def Obligations.NoStepStopsUnderTheInvariant : Prop :=
  ∀ s : State, s.Inv → (∃ t, step s = .next t) ∧ (∃ t, tickMove s = .next t ∧ t.rsp = none)

/-- Where the model stops (logs 11 and 12): a logic tick is refused exactly at an unsettled slot whose
speed is outside the step law's domain (R142), and a hardware tick faults exactly without a divisor. -/
def Obligations.TicksStopOnlyOutsideTheLegalDomain : Prop :=
  (∀ s : State, (logicTick s = .refused .stepLawOutsideDomain ↔
    (∃ p ∈ s.sv, p.currentAngle ≠ p.targetAngle ∧ (p.speed = 0 ∨ p.speed = 6 ∨ p.speed = 7)) ∨
    (∃ p ∈ s.pw, p.current ≠ p.target ∧ (p.speed = 6 ∨ p.speed = 7))) ∧
    ∀ f, logicTick s ≠ .fault f) ∧
  (∀ (s : State) (f : Fault), hwTickOp s = .fault f ↔ (f = .dividerZero ∧ s.cfg.tickDiv = 0)) ∧
  (∀ (i : Instr) (s : State), ∃ t, exec i s = .next t)

/-- R41, R43: a run from a state that meets the invariant never stops, whatever the surroundings do, and
stays in the invariant; so every state reached from reset, with any legal parameters and any inputs,
meets it. -/
def Obligations.RunsNeverStopAndStayInvariant : Prop :=
  (∀ (k : Nat) (s : State), s.Inv → ∃ t, Host.Core.run Sys2Proof.core k s = .next t ∧ State.Inv t) ∧
  (∀ (k : Nat) (c : Config) (inputs : List EnvInput), c.Legal →
    ∃ t, Host.Core.run Sys2Proof.core k { State.reset with cfg := c, env := inputs } = .next t ∧
      State.Inv t)
end

