-- ==== Sys2Proof/Laws/State.lean ====
section
/-! SUPPORT. One lemma per field per update of the state: what each shared operation writes and what it
leaves. -/

namespace Sys2Proof.Machine

@[simp] theorem respond_cfg (st : Status) (data : BitVec 8) (s : State) :
    (respond st data s).cfg = s.cfg := rfl
@[simp] theorem respond_pw (st : Status) (data : BitVec 8) (s : State) :
    (respond st data s).pw = s.pw := rfl
@[simp] theorem respond_sv (st : Status) (data : BitVec 8) (s : State) :
    (respond st data s).sv = s.sv := rfl
@[simp] theorem respond_sw (st : Status) (data : BitVec 8) (s : State) :
    (respond st data s).sw = s.sw := rfl
@[simp] theorem respond_tickCount (st : Status) (data : BitVec 8) (s : State) :
    (respond st data s).tickCount = s.tickCount := rfl
@[simp] theorem respond_trace (st : Status) (data : BitVec 8) (s : State) :
    (respond st data s).trace = s.trace := rfl
@[simp] theorem respond_cmd (st : Status) (data : BitVec 8) (s : State) :
    (respond st data s).cmd = none := rfl
@[simp] theorem respond_rsp (st : Status) (data : BitVec 8) (s : State) :
    (respond st data s).rsp = some (responseWord st data) := rfl
@[simp] theorem respond_hwTick (st : Status) (data : BitVec 8) (s : State) :
    (respond st data s).hwTick = s.hwTick := rfl
@[simp] theorem respond_rst (st : Status) (data : BitVec 8) (s : State) :
    (respond st data s).rst = s.rst := rfl
@[simp] theorem respond_lines (st : Status) (data : BitVec 8) (s : State) :
    (respond st data s).lines = s.lines := rfl
@[simp] theorem respond_now (st : Status) (data : BitVec 8) (s : State) :
    (respond st data s).now = s.now := rfl
@[simp] theorem respond_hostMark (st : Status) (data : BitVec 8) (s : State) :
    (respond st data s).hostMark = s.hostMark := rfl
@[simp] theorem respond_env (st : Status) (data : BitVec 8) (s : State) :
    (respond st data s).env = s.env := rfl
@[simp] theorem respond_freeCount (st : Status) (data : BitVec 8) (s : State) :
    (respond st data s).freeCount = s.freeCount := rfl

@[simp] theorem raise_cfg (st : Status) (s : State) : (raise st s).cfg = s.cfg := rfl
@[simp] theorem raise_pw (st : Status) (s : State) : (raise st s).pw = s.pw := rfl
@[simp] theorem raise_sv (st : Status) (s : State) : (raise st s).sv = s.sv := rfl
@[simp] theorem raise_sw (st : Status) (s : State) : (raise st s).sw = s.sw := rfl
@[simp] theorem raise_tickCount (st : Status) (s : State) : (raise st s).tickCount = s.tickCount := rfl
@[simp] theorem raise_trace (st : Status) (s : State) : (raise st s).trace = s.trace := rfl
@[simp] theorem raise_cmd (st : Status) (s : State) : (raise st s).cmd = none := rfl
@[simp] theorem raise_rsp (st : Status) (s : State) :
    (raise st s).rsp = some (responseWord st (errorData st)) := rfl
@[simp] theorem raise_hwTick (st : Status) (s : State) : (raise st s).hwTick = s.hwTick := rfl
@[simp] theorem raise_rst (st : Status) (s : State) : (raise st s).rst = s.rst := rfl
@[simp] theorem raise_lines (st : Status) (s : State) : (raise st s).lines = s.lines := rfl
@[simp] theorem raise_now (st : Status) (s : State) : (raise st s).now = s.now := rfl
@[simp] theorem raise_hostMark (st : Status) (s : State) :
    (raise st s).hostMark = (s.hostMark || blamesHost st) := rfl
@[simp] theorem raise_env (st : Status) (s : State) : (raise st s).env = s.env := rfl
@[simp] theorem raise_freeCount (st : Status) (s : State) : (raise st s).freeCount = s.freeCount := rfl

@[simp] theorem holdCommand_cfg (s : State) : (holdCommand s).cfg = s.cfg := rfl
@[simp] theorem holdCommand_pw (s : State) : (holdCommand s).pw = s.pw := rfl
@[simp] theorem holdCommand_sv (s : State) : (holdCommand s).sv = s.sv := rfl
@[simp] theorem holdCommand_sw (s : State) : (holdCommand s).sw = s.sw := rfl
@[simp] theorem holdCommand_tickCount (s : State) : (holdCommand s).tickCount = s.tickCount := rfl
@[simp] theorem holdCommand_trace (s : State) : (holdCommand s).trace = s.trace := rfl
@[simp] theorem holdCommand_cmd (s : State) : (holdCommand s).cmd = s.cmd := rfl
@[simp] theorem holdCommand_rsp (s : State) : (holdCommand s).rsp = none := rfl
@[simp] theorem holdCommand_hwTick (s : State) : (holdCommand s).hwTick = s.hwTick := rfl
@[simp] theorem holdCommand_rst (s : State) : (holdCommand s).rst = s.rst := rfl
@[simp] theorem holdCommand_lines (s : State) : (holdCommand s).lines = s.lines := rfl
@[simp] theorem holdCommand_now (s : State) : (holdCommand s).now = s.now := rfl
@[simp] theorem holdCommand_hostMark (s : State) : (holdCommand s).hostMark = s.hostMark := rfl
@[simp] theorem holdCommand_env (s : State) : (holdCommand s).env = s.env := rfl
@[simp] theorem holdCommand_freeCount (s : State) : (holdCommand s).freeCount = s.freeCount := rfl

@[simp] theorem emit_cfg (e : Event) (s : State) : (emit e s).cfg = s.cfg := rfl
@[simp] theorem emit_pw (e : Event) (s : State) : (emit e s).pw = s.pw := rfl
@[simp] theorem emit_sv (e : Event) (s : State) : (emit e s).sv = s.sv := rfl
@[simp] theorem emit_sw (e : Event) (s : State) : (emit e s).sw = s.sw := rfl
@[simp] theorem emit_tickCount (e : Event) (s : State) : (emit e s).tickCount = s.tickCount := rfl
@[simp] theorem emit_trace (e : Event) (s : State) : (emit e s).trace = s.trace ++ [e] := rfl
@[simp] theorem emit_cmd (e : Event) (s : State) : (emit e s).cmd = s.cmd := rfl
@[simp] theorem emit_rsp (e : Event) (s : State) : (emit e s).rsp = s.rsp := rfl
@[simp] theorem emit_hwTick (e : Event) (s : State) : (emit e s).hwTick = s.hwTick := rfl
@[simp] theorem emit_rst (e : Event) (s : State) : (emit e s).rst = s.rst := rfl
@[simp] theorem emit_lines (e : Event) (s : State) : (emit e s).lines = s.lines := rfl
@[simp] theorem emit_now (e : Event) (s : State) : (emit e s).now = s.now := rfl
@[simp] theorem emit_hostMark (e : Event) (s : State) : (emit e s).hostMark = s.hostMark := rfl
@[simp] theorem emit_env (e : Event) (s : State) : (emit e s).env = s.env := rfl
@[simp] theorem emit_freeCount (e : Event) (s : State) : (emit e s).freeCount = s.freeCount := rfl

@[simp] theorem writePw_cfg (ch : ChanId) (p : PwSlot) (s : State) : (writePw ch p s).cfg = s.cfg := rfl
@[simp] theorem writePw_pw (ch : ChanId) (p : PwSlot) (s : State) :
    (writePw ch p s).pw = s.pw.set ch.toNat p := rfl
@[simp] theorem writePw_sv (ch : ChanId) (p : PwSlot) (s : State) : (writePw ch p s).sv = s.sv := rfl
@[simp] theorem writePw_sw (ch : ChanId) (p : PwSlot) (s : State) : (writePw ch p s).sw = s.sw := rfl
@[simp] theorem writePw_tickCount (ch : ChanId) (p : PwSlot) (s : State) :
    (writePw ch p s).tickCount = s.tickCount := rfl
@[simp] theorem writePw_trace (ch : ChanId) (p : PwSlot) (s : State) :
    (writePw ch p s).trace = s.trace := rfl
@[simp] theorem writePw_cmd (ch : ChanId) (p : PwSlot) (s : State) : (writePw ch p s).cmd = s.cmd := rfl
@[simp] theorem writePw_rsp (ch : ChanId) (p : PwSlot) (s : State) : (writePw ch p s).rsp = s.rsp := rfl
@[simp] theorem writePw_hwTick (ch : ChanId) (p : PwSlot) (s : State) :
    (writePw ch p s).hwTick = s.hwTick := rfl
@[simp] theorem writePw_rst (ch : ChanId) (p : PwSlot) (s : State) : (writePw ch p s).rst = s.rst := rfl
@[simp] theorem writePw_lines (ch : ChanId) (p : PwSlot) (s : State) :
    (writePw ch p s).lines = s.lines := rfl
@[simp] theorem writePw_now (ch : ChanId) (p : PwSlot) (s : State) : (writePw ch p s).now = s.now := rfl
@[simp] theorem writePw_hostMark (ch : ChanId) (p : PwSlot) (s : State) :
    (writePw ch p s).hostMark = s.hostMark := rfl
@[simp] theorem writePw_env (ch : ChanId) (p : PwSlot) (s : State) : (writePw ch p s).env = s.env := rfl
@[simp] theorem writePw_freeCount (ch : ChanId) (p : PwSlot) (s : State) :
    (writePw ch p s).freeCount = s.freeCount := rfl

@[simp] theorem writeSv_cfg (ch : ChanId) (p : SvSlot) (s : State) : (writeSv ch p s).cfg = s.cfg := rfl
@[simp] theorem writeSv_pw (ch : ChanId) (p : SvSlot) (s : State) : (writeSv ch p s).pw = s.pw := rfl
@[simp] theorem writeSv_sv (ch : ChanId) (p : SvSlot) (s : State) :
    (writeSv ch p s).sv = s.sv.set ch.toNat p := rfl
@[simp] theorem writeSv_sw (ch : ChanId) (p : SvSlot) (s : State) : (writeSv ch p s).sw = s.sw := rfl
@[simp] theorem writeSv_tickCount (ch : ChanId) (p : SvSlot) (s : State) :
    (writeSv ch p s).tickCount = s.tickCount := rfl
@[simp] theorem writeSv_trace (ch : ChanId) (p : SvSlot) (s : State) :
    (writeSv ch p s).trace = s.trace := rfl
@[simp] theorem writeSv_cmd (ch : ChanId) (p : SvSlot) (s : State) : (writeSv ch p s).cmd = s.cmd := rfl
@[simp] theorem writeSv_rsp (ch : ChanId) (p : SvSlot) (s : State) : (writeSv ch p s).rsp = s.rsp := rfl
@[simp] theorem writeSv_hwTick (ch : ChanId) (p : SvSlot) (s : State) :
    (writeSv ch p s).hwTick = s.hwTick := rfl
@[simp] theorem writeSv_rst (ch : ChanId) (p : SvSlot) (s : State) : (writeSv ch p s).rst = s.rst := rfl
@[simp] theorem writeSv_lines (ch : ChanId) (p : SvSlot) (s : State) :
    (writeSv ch p s).lines = s.lines := rfl
@[simp] theorem writeSv_now (ch : ChanId) (p : SvSlot) (s : State) : (writeSv ch p s).now = s.now := rfl
@[simp] theorem writeSv_hostMark (ch : ChanId) (p : SvSlot) (s : State) :
    (writeSv ch p s).hostMark = s.hostMark := rfl
@[simp] theorem writeSv_env (ch : ChanId) (p : SvSlot) (s : State) : (writeSv ch p s).env = s.env := rfl
@[simp] theorem writeSv_freeCount (ch : ChanId) (p : SvSlot) (s : State) :
    (writeSv ch p s).freeCount = s.freeCount := rfl

@[simp] theorem appendPw_cfg (p : PwSlot) (s : State) : (appendPw p s).cfg = s.cfg := rfl
@[simp] theorem appendPw_pw (p : PwSlot) (s : State) : (appendPw p s).pw = s.pw ++ [p] := rfl
@[simp] theorem appendPw_sv (p : PwSlot) (s : State) : (appendPw p s).sv = s.sv := rfl
@[simp] theorem appendPw_sw (p : PwSlot) (s : State) : (appendPw p s).sw = s.sw := rfl
@[simp] theorem appendPw_tickCount (p : PwSlot) (s : State) :
    (appendPw p s).tickCount = s.tickCount := rfl
@[simp] theorem appendPw_trace (p : PwSlot) (s : State) : (appendPw p s).trace = s.trace := rfl
@[simp] theorem appendPw_cmd (p : PwSlot) (s : State) : (appendPw p s).cmd = s.cmd := rfl
@[simp] theorem appendPw_rsp (p : PwSlot) (s : State) : (appendPw p s).rsp = s.rsp := rfl
@[simp] theorem appendPw_hwTick (p : PwSlot) (s : State) : (appendPw p s).hwTick = s.hwTick := rfl
@[simp] theorem appendPw_rst (p : PwSlot) (s : State) : (appendPw p s).rst = s.rst := rfl
@[simp] theorem appendPw_lines (p : PwSlot) (s : State) : (appendPw p s).lines = s.lines := rfl
@[simp] theorem appendPw_now (p : PwSlot) (s : State) : (appendPw p s).now = s.now := rfl
@[simp] theorem appendPw_hostMark (p : PwSlot) (s : State) : (appendPw p s).hostMark = s.hostMark := rfl
@[simp] theorem appendPw_env (p : PwSlot) (s : State) : (appendPw p s).env = s.env := rfl
@[simp] theorem appendPw_freeCount (p : PwSlot) (s : State) :
    (appendPw p s).freeCount = s.freeCount := rfl

@[simp] theorem appendSv_cfg (p : SvSlot) (s : State) : (appendSv p s).cfg = s.cfg := rfl
@[simp] theorem appendSv_pw (p : SvSlot) (s : State) : (appendSv p s).pw = s.pw := rfl
@[simp] theorem appendSv_sv (p : SvSlot) (s : State) : (appendSv p s).sv = s.sv ++ [p] := rfl
@[simp] theorem appendSv_sw (p : SvSlot) (s : State) : (appendSv p s).sw = s.sw := rfl
@[simp] theorem appendSv_tickCount (p : SvSlot) (s : State) :
    (appendSv p s).tickCount = s.tickCount := rfl
@[simp] theorem appendSv_trace (p : SvSlot) (s : State) : (appendSv p s).trace = s.trace := rfl
@[simp] theorem appendSv_cmd (p : SvSlot) (s : State) : (appendSv p s).cmd = s.cmd := rfl
@[simp] theorem appendSv_rsp (p : SvSlot) (s : State) : (appendSv p s).rsp = s.rsp := rfl
@[simp] theorem appendSv_hwTick (p : SvSlot) (s : State) : (appendSv p s).hwTick = s.hwTick := rfl
@[simp] theorem appendSv_rst (p : SvSlot) (s : State) : (appendSv p s).rst = s.rst := rfl
@[simp] theorem appendSv_lines (p : SvSlot) (s : State) : (appendSv p s).lines = s.lines := rfl
@[simp] theorem appendSv_now (p : SvSlot) (s : State) : (appendSv p s).now = s.now := rfl
@[simp] theorem appendSv_hostMark (p : SvSlot) (s : State) : (appendSv p s).hostMark = s.hostMark := rfl
@[simp] theorem appendSv_env (p : SvSlot) (s : State) : (appendSv p s).env = s.env := rfl
@[simp] theorem appendSv_freeCount (p : SvSlot) (s : State) :
    (appendSv p s).freeCount = s.freeCount := rfl

@[simp] theorem appendSw_cfg (p : SwSlot) (s : State) : (appendSw p s).cfg = s.cfg := rfl
@[simp] theorem appendSw_pw (p : SwSlot) (s : State) : (appendSw p s).pw = s.pw := rfl
@[simp] theorem appendSw_sv (p : SwSlot) (s : State) : (appendSw p s).sv = s.sv := rfl
@[simp] theorem appendSw_sw (p : SwSlot) (s : State) : (appendSw p s).sw = s.sw ++ [p] := rfl
@[simp] theorem appendSw_tickCount (p : SwSlot) (s : State) :
    (appendSw p s).tickCount = s.tickCount := rfl
@[simp] theorem appendSw_trace (p : SwSlot) (s : State) : (appendSw p s).trace = s.trace := rfl
@[simp] theorem appendSw_cmd (p : SwSlot) (s : State) : (appendSw p s).cmd = s.cmd := rfl
@[simp] theorem appendSw_rsp (p : SwSlot) (s : State) : (appendSw p s).rsp = s.rsp := rfl
@[simp] theorem appendSw_hwTick (p : SwSlot) (s : State) : (appendSw p s).hwTick = s.hwTick := rfl
@[simp] theorem appendSw_rst (p : SwSlot) (s : State) : (appendSw p s).rst = s.rst := rfl
@[simp] theorem appendSw_lines (p : SwSlot) (s : State) : (appendSw p s).lines = s.lines := rfl
@[simp] theorem appendSw_now (p : SwSlot) (s : State) : (appendSw p s).now = s.now := rfl
@[simp] theorem appendSw_hostMark (p : SwSlot) (s : State) : (appendSw p s).hostMark = s.hostMark := rfl
@[simp] theorem appendSw_env (p : SwSlot) (s : State) : (appendSw p s).env = s.env := rfl
@[simp] theorem appendSw_freeCount (p : SwSlot) (s : State) :
    (appendSw p s).freeCount = s.freeCount := rfl

@[simp] theorem present_cfg (i : EnvInput) (s : State) : (present i s).cfg = s.cfg := rfl
@[simp] theorem present_pw (i : EnvInput) (s : State) : (present i s).pw = s.pw := rfl
@[simp] theorem present_sv (i : EnvInput) (s : State) : (present i s).sv = s.sv := rfl
@[simp] theorem present_sw (i : EnvInput) (s : State) : (present i s).sw = s.sw := rfl
@[simp] theorem present_tickCount (i : EnvInput) (s : State) :
    (present i s).tickCount = s.tickCount := rfl
@[simp] theorem present_trace (i : EnvInput) (s : State) : (present i s).trace = s.trace := rfl
@[simp] theorem present_cmd (i : EnvInput) (s : State) : (present i s).cmd = s.cmd.or i.cmd := rfl
@[simp] theorem present_rsp (i : EnvInput) (s : State) : (present i s).rsp = none := rfl
@[simp] theorem present_hwTick (i : EnvInput) (s : State) : (present i s).hwTick = i.hwTick := rfl
@[simp] theorem present_rst (i : EnvInput) (s : State) : (present i s).rst = i.rst := rfl
@[simp] theorem present_lines (i : EnvInput) (s : State) : (present i s).lines = i.lines := rfl
@[simp] theorem present_now (i : EnvInput) (s : State) : (present i s).now = s.now + i.advance := rfl
@[simp] theorem present_hostMark (i : EnvInput) (s : State) : (present i s).hostMark = s.hostMark := rfl
@[simp] theorem present_env (i : EnvInput) (s : State) : (present i s).env = s.env := rfl
@[simp] theorem present_freeCount (i : EnvInput) (s : State) :
    (present i s).freeCount = s.freeCount := rfl

@[simp] theorem resetMove_cfg (s : State) : (resetMove s).cfg = s.cfg := rfl
@[simp] theorem resetMove_pw (s : State) : (resetMove s).pw = [] := rfl
@[simp] theorem resetMove_sv (s : State) : (resetMove s).sv = [] := rfl
@[simp] theorem resetMove_sw (s : State) : (resetMove s).sw = [] := rfl
@[simp] theorem resetMove_tickCount (s : State) : (resetMove s).tickCount = 0 := rfl
@[simp] theorem resetMove_trace (s : State) : (resetMove s).trace = [] := rfl
@[simp] theorem resetMove_cmd (s : State) : (resetMove s).cmd = s.cmd := rfl
@[simp] theorem resetMove_rsp (s : State) : (resetMove s).rsp = none := rfl
@[simp] theorem resetMove_hwTick (s : State) : (resetMove s).hwTick = false := rfl
@[simp] theorem resetMove_rst (s : State) : (resetMove s).rst = false := rfl
@[simp] theorem resetMove_lines (s : State) : (resetMove s).lines = s.lines := rfl
@[simp] theorem resetMove_now (s : State) : (resetMove s).now = s.now := rfl
@[simp] theorem resetMove_hostMark (s : State) : (resetMove s).hostMark = s.hostMark := rfl
@[simp] theorem resetMove_env (s : State) : (resetMove s).env = s.env := rfl
@[simp] theorem resetMove_freeCount (s : State) : (resetMove s).freeCount = s.freeCount := rfl

@[simp] theorem presentWord_cfg (w : Word) (s : State) : (presentWord w s).cfg = s.cfg := rfl
@[simp] theorem presentWord_pw (w : Word) (s : State) : (presentWord w s).pw = s.pw := rfl
@[simp] theorem presentWord_sv (w : Word) (s : State) : (presentWord w s).sv = s.sv := rfl
@[simp] theorem presentWord_sw (w : Word) (s : State) : (presentWord w s).sw = s.sw := rfl
@[simp] theorem presentWord_tickCount (w : Word) (s : State) :
    (presentWord w s).tickCount = s.tickCount := rfl
@[simp] theorem presentWord_trace (w : Word) (s : State) : (presentWord w s).trace = s.trace := rfl
@[simp] theorem presentWord_cmd (w : Word) (s : State) : (presentWord w s).cmd = some w := rfl
@[simp] theorem presentWord_rsp (w : Word) (s : State) : (presentWord w s).rsp = s.rsp := rfl
@[simp] theorem presentWord_hwTick (w : Word) (s : State) : (presentWord w s).hwTick = false := rfl
@[simp] theorem presentWord_rst (w : Word) (s : State) : (presentWord w s).rst = false := rfl
@[simp] theorem presentWord_lines (w : Word) (s : State) : (presentWord w s).lines = s.lines := rfl
@[simp] theorem presentWord_now (w : Word) (s : State) : (presentWord w s).now = s.now := rfl
@[simp] theorem presentWord_hostMark (w : Word) (s : State) :
    (presentWord w s).hostMark = s.hostMark := rfl
@[simp] theorem presentWord_env (w : Word) (s : State) : (presentWord w s).env = s.env := rfl
@[simp] theorem presentWord_freeCount (w : Word) (s : State) :
    (presentWord w s).freeCount = s.freeCount := rfl

@[simp] theorem emitAttach_cfg (p : SvSlot) (s : State) : (emitAttach p s).cfg = s.cfg := by
  unfold emitAttach; split <;> rfl
@[simp] theorem emitAttach_pw (p : SvSlot) (s : State) : (emitAttach p s).pw = s.pw := by
  unfold emitAttach; split <;> rfl
@[simp] theorem emitAttach_sv (p : SvSlot) (s : State) : (emitAttach p s).sv = s.sv := by
  unfold emitAttach; split <;> rfl
@[simp] theorem emitAttach_sw (p : SvSlot) (s : State) : (emitAttach p s).sw = s.sw := by
  unfold emitAttach; split <;> rfl
@[simp] theorem emitAttach_tickCount (p : SvSlot) (s : State) : (emitAttach p s).tickCount = s.tickCount := by
  unfold emitAttach; split <;> rfl
@[simp] theorem emitAttach_trace (p : SvSlot) (s : State) :
    (emitAttach p s).trace = if p.attached then s.trace else s.trace ++ [.svAttach p.pin] := by
  unfold emitAttach; split <;> rfl
@[simp] theorem emitAttach_cmd (p : SvSlot) (s : State) : (emitAttach p s).cmd = s.cmd := by
  unfold emitAttach; split <;> rfl
@[simp] theorem emitAttach_rsp (p : SvSlot) (s : State) : (emitAttach p s).rsp = s.rsp := by
  unfold emitAttach; split <;> rfl
@[simp] theorem emitAttach_hwTick (p : SvSlot) (s : State) : (emitAttach p s).hwTick = s.hwTick := by
  unfold emitAttach; split <;> rfl
@[simp] theorem emitAttach_rst (p : SvSlot) (s : State) : (emitAttach p s).rst = s.rst := by
  unfold emitAttach; split <;> rfl
@[simp] theorem emitAttach_lines (p : SvSlot) (s : State) : (emitAttach p s).lines = s.lines := by
  unfold emitAttach; split <;> rfl
@[simp] theorem emitAttach_now (p : SvSlot) (s : State) : (emitAttach p s).now = s.now := by
  unfold emitAttach; split <;> rfl
@[simp] theorem emitAttach_hostMark (p : SvSlot) (s : State) : (emitAttach p s).hostMark = s.hostMark := by
  unfold emitAttach; split <;> rfl
@[simp] theorem emitAttach_env (p : SvSlot) (s : State) : (emitAttach p s).env = s.env := by
  unfold emitAttach; split <;> rfl
@[simp] theorem emitAttach_freeCount (p : SvSlot) (s : State) : (emitAttach p s).freeCount = s.freeCount := by
  unfold emitAttach; split <;> rfl

end Sys2Proof.Machine
end

