-- ==== Sys2Proof/Laws/Decode.lean ====
section
/-! SUPPORT. Laws of words and their fields: a packed word's fields, a word from its fields, and what a
match under a mask says about them. -/

namespace Sys2Proof

@[simp] theorem opOf_pack (f : Fields) : opOf (pack f) = f.op := by
  unfold pack opOf
  apply BitVec.eq_of_getLsbD_eq; intro i hi
  rw [BitVec.getLsbD_extractLsb']
  repeat rw [BitVec.getLsbD_append]
  interval_cases i <;> rfl

@[simp] theorem kindOf_pack (f : Fields) : kindOf (pack f) = f.kind := by
  unfold pack kindOf
  apply BitVec.eq_of_getLsbD_eq; intro i hi
  rw [BitVec.getLsbD_extractLsb']
  repeat rw [BitVec.getLsbD_append]
  interval_cases i <;> rfl

@[simp] theorem z1Of_pack (f : Fields) : z1Of (pack f) = f.z1 := by
  unfold pack z1Of
  apply BitVec.eq_of_getLsbD_eq; intro i hi
  rw [BitVec.getLsbD_extractLsb']
  repeat rw [BitVec.getLsbD_append]
  interval_cases i <;> rfl

@[simp] theorem chOf_pack (f : Fields) : chOf (pack f) = f.ch := by
  unfold pack chOf
  apply BitVec.eq_of_getLsbD_eq; intro i hi
  rw [BitVec.getLsbD_extractLsb']
  repeat rw [BitVec.getLsbD_append]
  interval_cases i <;> rfl

@[simp] theorem z2Of_pack (f : Fields) : z2Of (pack f) = f.z2 := by
  unfold pack z2Of
  apply BitVec.eq_of_getLsbD_eq; intro i hi
  rw [BitVec.getLsbD_extractLsb']
  repeat rw [BitVec.getLsbD_append]
  interval_cases i <;> rfl

@[simp] theorem payloadOf_pack (f : Fields) : payloadOf (pack f) = f.payload := by
  unfold pack payloadOf
  apply BitVec.eq_of_getLsbD_eq; intro i hi
  rw [BitVec.getLsbD_extractLsb']
  repeat rw [BitVec.getLsbD_append]
  interval_cases i <;> rfl

/-- A field inside the payload is that field of the payload alone. -/
theorem extract_payload (w : Word) (start len : Nat) (h : start + len ≤ 16) :
    w.extractLsb' start len = (payloadOf w).extractLsb' start len := by
  apply BitVec.eq_of_getLsbD_eq; intro i hi
  have h16 : start + i < 16 := by omega
  simp [payloadOf, hi, h16]

theorem valueOf_payload (w : Word) : valueOf w = (payloadOf w).extractLsb' 0 8 :=
  extract_payload w 0 8 (by decide)

theorem auxOf_payload (w : Word) : auxOf w = (payloadOf w).extractLsb' 8 8 :=
  extract_payload w 8 8 (by decide)

theorem speedOf_payload (w : Word) : speedOf w = (payloadOf w).extractLsb' 8 3 :=
  extract_payload w 8 3 (by decide)

theorem highPayloadOf_payload (w : Word) : highPayloadOf w = (payloadOf w).extractLsb' 11 5 :=
  extract_payload w 11 5 (by decide)

theorem pack_split (w : Word) : pack (split w) = w := by
  unfold pack split opOf kindOf z1Of chOf z2Of payloadOf
  apply BitVec.eq_of_getLsbD_eq; intro i hi
  repeat rw [BitVec.getLsbD_append]
  simp only [BitVec.getLsbD_extractLsb']
  interval_cases i <;> simp

theorem split_pack (f : Fields) : split (pack f) = f := by simp [split]

/-- Two words with the same six fields are the same word. -/
theorem word_eq_of_split_eq {v w : Word} (h : split v = split w) : v = w := by
  rw [← pack_split v, ← pack_split w, h]

/-- A field that a mask leaves whole is read through it. -/
theorem extract_of_mask (w mask value : Word) (start len : Nat) (h : w &&& mask = value)
    (hm : mask.extractLsb' start len = BitVec.allOnes len) :
    w.extractLsb' start len = value.extractLsb' start len := by
  rw [← h, BitVec.extractLsb'_and, hm, BitVec.and_allOnes]

/-- Two words that agree under a mask on every bit of it give the same masked value. -/
theorem mask_eq_of_extract {w mask value : Word}
    (h : ∀ i < 32, mask.getLsbD i = true → w.getLsbD i = value.getLsbD i)
    (hv : value &&& mask = value) : w &&& mask = value := by
  rw [← hv]
  apply BitVec.eq_of_getLsbD_eq; intro i hi
  rw [BitVec.getLsbD_and, BitVec.getLsbD_and]
  cases hmi : mask.getLsbD i with
  | false => simp
  | true => simp [h i hi hmi]

theorem accept_ok_iff {ok : Bool} {i j : Instr} : accept ok i = .ok j ↔ ok = true ∧ i = j := by
  unfold accept; cases ok <;> simp

theorem accept_true (i : Instr) : accept true i = .ok i := rfl

@[simp] theorem payloadV_value (v : BitVec 8) : (payloadV v).extractLsb' 0 8 = v := by
  unfold payloadV; apply BitVec.eq_of_getLsbD_eq; intro i hi
  rw [BitVec.getLsbD_extractLsb', BitVec.getLsbD_append]; interval_cases i <;> rfl

@[simp] theorem payloadV_aux (v : BitVec 8) : (payloadV v).extractLsb' 8 8 = 0 := by
  unfold payloadV; apply BitVec.eq_of_getLsbD_eq; intro i hi
  rw [BitVec.getLsbD_extractLsb', BitVec.getLsbD_append]; interval_cases i <;> rfl

@[simp] theorem payloadVS_value (s : BitVec 3) (v : BitVec 8) : (payloadVS s v).extractLsb' 0 8 = v := by
  unfold payloadVS; apply BitVec.eq_of_getLsbD_eq; intro i hi
  rw [BitVec.getLsbD_extractLsb', BitVec.getLsbD_append]; interval_cases i <;> rfl

@[simp] theorem payloadVS_speed (s : BitVec 3) (v : BitVec 8) : (payloadVS s v).extractLsb' 8 3 = s := by
  unfold payloadVS; apply BitVec.eq_of_getLsbD_eq; intro i hi
  rw [BitVec.getLsbD_extractLsb']; repeat rw [BitVec.getLsbD_append]
  interval_cases i <;> rfl

@[simp] theorem payloadVS_high (s : BitVec 3) (v : BitVec 8) : (payloadVS s v).extractLsb' 11 5 = 0 := by
  unfold payloadVS; apply BitVec.eq_of_getLsbD_eq; intro i hi
  rw [BitVec.getLsbD_extractLsb']; repeat rw [BitVec.getLsbD_append]
  interval_cases i <;> rfl

@[simp] theorem payloadR_pin (a p : BitVec 8) : (payloadR a p).extractLsb' 0 8 = p := by
  unfold payloadR; apply BitVec.eq_of_getLsbD_eq; intro i hi
  rw [BitVec.getLsbD_extractLsb', BitVec.getLsbD_append]; interval_cases i <;> rfl

@[simp] theorem payloadR_aux (a p : BitVec 8) : (payloadR a p).extractLsb' 8 8 = a := by
  unfold payloadR; apply BitVec.eq_of_getLsbD_eq; intro i hi
  rw [BitVec.getLsbD_extractLsb', BitVec.getLsbD_append]; interval_cases i <;> rfl

/-- What a decoded word is: the one inversion of the decoder. -/
theorem decode_cases {w : Word} {i : Instr} (h : decode w = .ok i) :
    (opOf w = 1 ∧ kindOf w = 0 ∧ okR w = true ∧ i = .regPw (valueOf w) (auxOf w)) ∨
    (opOf w = 1 ∧ kindOf w = 1 ∧ okR w = true ∧ i = .regSv (valueOf w) (auxOf w)) ∨
    (opOf w = 1 ∧ kindOf w = 2 ∧ okR w = true ∧ i = .regSw (valueOf w) (auxOf w)) ∨
    (opOf w = 2 ∧ kindOf w = 0 ∧ okV w = true ∧ i = .pwSet (chOf w) (valueOf w)) ∨
    (opOf w = 2 ∧ kindOf w = 1 ∧ okV w = true ∧ i = .svMove (chOf w) (valueOf w)) ∨
    (opOf w = 3 ∧ kindOf w = 0 ∧ okVS w = true ∧ i = .pwFade (chOf w) (valueOf w) (speedOf w)) ∨
    (opOf w = 3 ∧ kindOf w = 1 ∧ okVS w = true ∧ i = .svMoves (chOf w) (valueOf w) (speedOf w)) ∨
    (opOf w = 4 ∧ kindOf w = 0 ∧ okC w = true ∧ i = .pwSettled (chOf w)) ∨
    (opOf w = 4 ∧ kindOf w = 1 ∧ okC w = true ∧ i = .svSettled (chOf w)) ∨
    (opOf w = 5 ∧ kindOf w = 0 ∧ okK w = true ∧ i = .pwAllset) ∨
    (opOf w = 5 ∧ kindOf w = 1 ∧ okK w = true ∧ i = .svAllset) ∨
    (opOf w = 6 ∧ kindOf w = 0 ∧ okC w = true ∧ i = .pwWait (chOf w)) ∨
    (opOf w = 6 ∧ kindOf w = 1 ∧ okC w = true ∧ i = .svWait (chOf w)) ∨
    (opOf w = 7 ∧ kindOf w = 0 ∧ okK w = true ∧ i = .pwWaitall) ∨
    (opOf w = 7 ∧ kindOf w = 1 ∧ okK w = true ∧ i = .svWaitall) ∨
    (opOf w = 8 ∧ kindOf w = 1 ∧ okC w = true ∧ i = .svRest (chOf w)) ∨
    (opOf w = 9 ∧ kindOf w = 2 ∧ okH w = true ∧ i = .swActive (chOf w) (payloadOf w)) := by
  unfold decode at h
  split at h
  all_goals first
    | (rename_i h1 h2
       replace h1 := congrArg (BitVec.ofNat 4) h1
       replace h2 := congrArg (BitVec.ofNat 2) h2
       rw [BitVec.ofNat_toNat, BitVec.setWidth_eq] at h1 h2
       obtain ⟨ha, hb⟩ := accept_ok_iff.mp h
       subst hb
       simp [h1, h2, ha])
    | (cases h)

theorem okR_fields {w : Word} (h : okR w = true) : z1Of w = 0 ∧ z2Of w = 0 ∧ chOf w = 0 := by
  simp [okR, zOk] at h; simp [h]

theorem okV_fields {w : Word} (h : okV w = true) : z1Of w = 0 ∧ z2Of w = 0 ∧ auxOf w = 0 := by
  simp [okV, zOk] at h; simp [h]

theorem okVS_fields {w : Word} (h : okVS w = true) : z1Of w = 0 ∧ z2Of w = 0 ∧ highPayloadOf w = 0 := by
  simp [okVS, zOk] at h; simp [h]

theorem okC_fields {w : Word} (h : okC w = true) : z1Of w = 0 ∧ z2Of w = 0 ∧ payloadOf w = 0 := by
  simp [okC, zOk] at h; simp [h]

theorem okK_fields {w : Word} (h : okK w = true) : z1Of w = 0 ∧ z2Of w = 0 ∧ chOf w = 0 ∧ payloadOf w = 0 := by
  simp [okK, zOk] at h; simp [h]

theorem okH_fields {w : Word} (h : okH w = true) : z1Of w = 0 ∧ z2Of w = 0 := by
  simp [okH, zOk] at h; simp [h]

theorem payloadV_of_word (w : Word) (h : auxOf w = 0) : payloadV (valueOf w) = payloadOf w := by
  have : (payloadOf w).extractLsb' 8 8 = 0 := by rw [← auxOf_payload]; exact h
  rw [valueOf_payload]; unfold payloadV
  apply BitVec.eq_of_getLsbD_eq; intro i hi
  have hb : ∀ k < 8, (payloadOf w).getLsbD (8 + k) = false := by
    intro k hk; have := congrArg (fun x : BitVec 8 => x.getLsbD k) this; simpa [hk] using this
  rw [BitVec.getLsbD_append, BitVec.getLsbD_extractLsb']
  by_cases h8 : i < 8
  · simp [h8]
  · obtain ⟨k, rfl⟩ := Nat.exists_eq_add_of_le (Nat.not_lt.mp h8)
    rw [hb k (by omega)]; simp

theorem payloadVS_of_word (w : Word) (h : highPayloadOf w = 0) : payloadVS (speedOf w) (valueOf w) = payloadOf w := by
  have : (payloadOf w).extractLsb' 11 5 = 0 := by rw [← highPayloadOf_payload]; exact h
  rw [valueOf_payload, speedOf_payload]; unfold payloadVS
  apply BitVec.eq_of_getLsbD_eq; intro i hi
  have hb : ∀ k < 5, (payloadOf w).getLsbD (11 + k) = false := by
    intro k hk; have := congrArg (fun x : BitVec 5 => x.getLsbD k) this; simpa [hk] using this
  repeat rw [BitVec.getLsbD_append]
  simp only [BitVec.getLsbD_extractLsb']
  by_cases h8 : i < 8
  · simp [h8]
  · by_cases h11 : i < 11
    · have : i - 8 < 3 := by omega
      simp [h8, this]; congr 1; omega
    · obtain ⟨k, rfl⟩ := Nat.exists_eq_add_of_le (Nat.not_lt.mp h11)
      rw [hb k (by omega)]
      have : ¬ (11 + k - 8 < 3) := by omega
      simp [h8, this]

theorem payloadR_of_word (w : Word) : payloadR (auxOf w) (valueOf w) = payloadOf w := by
  rw [valueOf_payload, auxOf_payload]; unfold payloadR
  apply BitVec.eq_of_getLsbD_eq; intro i hi
  rw [BitVec.getLsbD_append]
  simp only [BitVec.getLsbD_extractLsb']
  by_cases h8 : i < 8
  · simp [h8]
  · have : i - 8 < 8 := by omega
    simp [h8, this]; congr 1; omega

end Sys2Proof
end

