-- ==== Sys2Proof/Laws/Exec.lean ====
section
/-! SUPPORT. Laws of the commands: everything an accepted or held command can do, said once. -/

namespace Sys2Proof.Machine

theorem selectPw_eq (ch : ChanId) (s : State) : selectPw ch s = s.pw[ch.toNat]? := rfl

theorem selectSv_eq (ch : ChanId) (s : State) : selectSv ch s = s.sv[ch.toNat]? := rfl

theorem selectSw_eq (ch : ChanId) (s : State) : selectSw ch s = s.sw[ch.toNat]? := rfl

theorem settledPw_iff (p : PwSlot) : settledPw p = true ↔ p.current = p.target := by simp [settledPw]

theorem settledSv_iff (p : SvSlot) : settledSv p = true ↔ p.currentAngle = p.targetAngle := by
  simp [settledSv]

theorem allsetPw_iff (s : State) : allsetPw s = true ↔ ∀ p ∈ s.pw, p.current = p.target := by
  simp [allsetPw, settledPw]

theorem allsetSv_iff (s : State) :
    allsetSv s = true ↔ ∀ p ∈ s.sv, p.currentAngle = p.targetAngle := by
  simp [allsetSv, settledSv]

theorem speedLegal_iff (speed : SpeedCode) :
    speedLegal speed = true ↔ 1 ≤ speed.toNat ∧ speed.toNat ≤ 5 := by simp [speedLegal]

theorem angleLegal_iff (cfg : Config) (a : Angle) :
    angleLegal cfg a = true ↔ a.toNat ≤ cfg.svAngleMax.toNat := by simp [angleLegal]

/-- A response word's status field (R95). -/
theorem responseWord_status (st : Status) (data : BitVec 8) :
    (responseWord st data).extractLsb' 28 4 = statusCode st := by
  unfold responseWord
  apply BitVec.eq_of_getLsbD_eq; intro i hi
  rw [BitVec.getLsbD_extractLsb']
  repeat rw [BitVec.getLsbD_append]
  interval_cases i <;> rfl

/-- A response word's zeros (R95). -/
theorem responseWord_zeros (st : Status) (data : BitVec 8) :
    (responseWord st data).extractLsb' 8 20 = 0 := by
  unfold responseWord
  apply BitVec.eq_of_getLsbD_eq; intro i hi
  rw [BitVec.getLsbD_extractLsb']
  repeat rw [BitVec.getLsbD_append]
  interval_cases i <;> rfl

theorem statusCode_injective {a b : Status} (h : statusCode a = statusCode b) : a = b := by
  cases a <;> cases b <;> first | rfl | exact absurd h (by decide)

/-- Everything a command can do: an error; a hold; an answer that writes nothing; a registration; a new
target; a detach. -/
theorem exec_cases {i : Instr} {s t : State} (h : exec i s = .next t) :
    (∃ st, st ≠ .ok ∧ t = raise st s) ∨
    (held i s = true ∧ t = holdCommand s) ∨
    (∃ d, t = respond .ok d s) ∨
    (∃ pin aux, i = .regPw pin aux ∧ s.pw.length < s.cfg.capPw ∧
      t = respond .ok (idData s.pw.length) (emit (.pinMode pin .out) (appendPw (initialPw s.cfg pin) s))) ∨
    (∃ pin aux, i = .regSv pin aux ∧ s.sv.length < s.cfg.capSv ∧
      t = respond .ok (idData s.sv.length)
        (if s.cfg.svAttachAtReg then
          emit (.svAttach pin) (emit (.pinMode pin .out) (appendSv (initialSv s.cfg pin) s))
        else emit (.pinMode pin .out) (appendSv (initialSv s.cfg pin) s))) ∨
    (∃ pin aux, i = .regSw pin aux ∧ s.sw.length < s.cfg.capSw ∧
      t = respond .ok (idData s.sw.length) (emit (.pinMode pin .inp) (appendSw (initialSw pin) s))) ∨
    (∃ ch value p, i = .pwSet ch value ∧ s.pw[ch.toNat]? = some p ∧
      t = respond .ok 0 (writePw ch { p with target := value } s)) ∨
    (∃ ch value speed p, i = .pwFade ch value speed ∧ s.pw[ch.toNat]? = some p ∧
      speedLegal speed = true ∧
      t = respond .ok 0 (writePw ch { p with target := value, speed := speed } s)) ∨
    (∃ ch angle p, i = .svMove ch angle ∧ s.sv[ch.toNat]? = some p ∧ angleLegal s.cfg angle = true ∧
      t = respond .ok 0 (writeSv ch { p with attached := true, targetAngle := angle } (emitAttach p s))) ∨
    (∃ ch angle speed p, i = .svMoves ch angle speed ∧ s.sv[ch.toNat]? = some p ∧
      speedLegal speed = true ∧ angleLegal s.cfg angle = true ∧
      t = respond .ok 0 (writeSv ch { p with attached := true, targetAngle := angle, speed := speed }
        (emitAttach p s))) ∨
    (∃ ch p, i = .svRest ch ∧ s.sv[ch.toNat]? = some p ∧ settledSv p = true ∧ p.attached = true ∧
      t = respond .ok 0 (emit (.svDetach p.pin) (writeSv ch { p with attached := false } s))) := by
  cases i with
  | regPw pin aux =>
    change execRegPw pin aux s = _ at h; unfold execRegPw at h
    by_cases hc : s.cfg.capPw ≤ nPw s
    · rw [if_pos hc] at h; cases h; exact .inl ⟨_, by decide, rfl⟩
    · rw [if_neg hc] at h; cases h
      exact .inr (.inr (.inr (.inl ⟨pin, aux, rfl, Nat.not_le.mp hc, rfl⟩)))
  | regSv pin aux =>
    change execRegSv pin aux s = _ at h; unfold execRegSv at h
    by_cases hc : s.cfg.capSv ≤ nSv s
    · rw [if_pos hc] at h; cases h; exact .inl ⟨_, by decide, rfl⟩
    · rw [if_neg hc] at h; cases h
      exact .inr (.inr (.inr (.inr (.inl ⟨pin, aux, rfl, Nat.not_le.mp hc, rfl⟩))))
  | regSw pin aux =>
    change execRegSw pin aux s = _ at h; unfold execRegSw at h
    by_cases hc : s.cfg.capSw ≤ nSw s
    · rw [if_pos hc] at h; cases h; exact .inl ⟨_, by decide, rfl⟩
    · rw [if_neg hc] at h; cases h
      exact .inr (.inr (.inr (.inr (.inr (.inl ⟨pin, aux, rfl, Nat.not_le.mp hc, rfl⟩)))))
  | pwSet ch value =>
    simp only [exec, execPwSet] at h
    split at h <;> cases h
    · exact .inl ⟨_, by decide, rfl⟩
    · exact .inr (.inr (.inr (.inr (.inr (.inr (.inl ⟨ch, value, _, rfl, ‹_›, rfl⟩))))))
  | pwFade ch value speed =>
    simp only [exec, execPwFade] at h
    split at h
    · cases h; exact .inl ⟨_, by decide, rfl⟩
    · split at h <;> cases h
      · exact .inr (.inr (.inr (.inr (.inr (.inr (.inr (.inl
          ⟨ch, value, speed, _, rfl, ‹_›, ‹_›, rfl⟩)))))))
      · exact .inl ⟨_, by decide, rfl⟩
  | svMove ch angle =>
    simp only [exec, execSvMove] at h
    split at h
    · cases h; exact .inl ⟨_, by decide, rfl⟩
    · split at h <;> cases h
      · exact .inr (.inr (.inr (.inr (.inr (.inr (.inr (.inr (.inl
          ⟨ch, angle, _, rfl, ‹_›, ‹_›, rfl⟩))))))))
      · exact .inl ⟨_, by decide, rfl⟩
  | svMoves ch angle speed =>
    simp only [exec, execSvMoves] at h
    split at h
    · cases h; exact .inl ⟨_, by decide, rfl⟩
    · split at h
      · split at h <;> cases h
        · exact .inr (.inr (.inr (.inr (.inr (.inr (.inr (.inr (.inr (.inl
            ⟨ch, angle, speed, _, rfl, ‹_›, ‹_›, ‹_›, rfl⟩)))))))))
        · exact .inl ⟨_, by decide, rfl⟩
      · cases h; exact .inl ⟨_, by decide, rfl⟩
  | svRest ch =>
    simp only [exec, execSvRest] at h
    split at h
    · cases h; exact .inl ⟨_, by decide, rfl⟩
    · rename_i p hp
      split at h
      · split at h <;> cases h
        · exact .inr (.inr (.inr (.inr (.inr (.inr (.inr (.inr (.inr (.inr
            ⟨ch, p, rfl, hp, ‹_›, ‹_›, rfl⟩)))))))))
        · exact .inr (.inr (.inl ⟨_, rfl⟩))
      · cases h
        exact .inr (.inl ⟨by simp [held, *], rfl⟩)
  | pwSettled ch =>
    simp only [exec, execPwSettled] at h
    split at h <;> cases h
    · exact .inl ⟨_, by decide, rfl⟩
    · exact .inr (.inr (.inl ⟨_, rfl⟩))
  | svSettled ch =>
    simp only [exec, execSvSettled] at h
    split at h <;> cases h
    · exact .inl ⟨_, by decide, rfl⟩
    · exact .inr (.inr (.inl ⟨_, rfl⟩))
  | pwAllset => cases h; exact .inr (.inr (.inl ⟨_, rfl⟩))
  | svAllset => cases h; exact .inr (.inr (.inl ⟨_, rfl⟩))
  | pwWait ch =>
    simp only [exec, execPwWait] at h
    split at h
    · cases h; exact .inl ⟨_, by decide, rfl⟩
    · rename_i p hp
      split at h <;> cases h
      · exact .inr (.inr (.inl ⟨_, rfl⟩))
      · exact .inr (.inl ⟨by simp [held, *], rfl⟩)
  | svWait ch =>
    simp only [exec, execSvWait] at h
    split at h
    · cases h; exact .inl ⟨_, by decide, rfl⟩
    · rename_i p hp
      split at h <;> cases h
      · exact .inr (.inr (.inl ⟨_, rfl⟩))
      · exact .inr (.inl ⟨by simp [held, *], rfl⟩)
  | pwWaitall =>
    simp only [exec, execPwWaitall] at h
    split at h <;> cases h
    · exact .inr (.inr (.inl ⟨_, rfl⟩))
    · exact .inr (.inl ⟨by simp [held, *], rfl⟩)
  | svWaitall =>
    simp only [exec, execSvWaitall] at h
    split at h <;> cases h
    · exact .inr (.inr (.inl ⟨_, rfl⟩))
    · exact .inr (.inl ⟨by simp [held, *], rfl⟩)
  | swActive ch hold =>
    simp only [exec, execSwActive] at h
    split at h <;> cases h
    · exact .inl ⟨_, by decide, rfl⟩
    · exact .inr (.inr (.inl ⟨_, rfl⟩))

/-- A held command waits: no response, no change (R190). -/
theorem exec_of_held {i : Instr} {s : State} (h : held i s = true) : exec i s = .next (holdCommand s) := by
  cases i <;> simp only [held, Bool.false_eq_true] at h
  case pwWait ch =>
    split at h
    · cases h
    · rename_i p hp; simp only [Bool.not_eq_true'] at h; simp [exec, execPwWait, hp, h]
  case svWait ch =>
    split at h
    · cases h
    · rename_i p hp; simp only [Bool.not_eq_true'] at h; simp [exec, execSvWait, hp, h]
  case svRest ch =>
    split at h
    · cases h
    · rename_i p hp; simp only [Bool.not_eq_true'] at h; simp [exec, execSvRest, hp, h]
  case pwWaitall => simp only [Bool.not_eq_true'] at h; simp [exec, execPwWaitall, h]
  case svWaitall => simp only [Bool.not_eq_true'] at h; simp [exec, execSvWaitall, h]

/-- A command that is not held is answered (R95). -/
theorem exec_of_not_held {i : Instr} {s t : State} (hh : held i s = false) (h : exec i s = .next t) :
    t.cmd = none ∧ ∃ st d, t.rsp = some (responseWord st d) := by
  rcases exec_cases h with ⟨st, _, rfl⟩ | ⟨h', _⟩ | ⟨d, rfl⟩ | ⟨_, _, _, _, rfl⟩ | ⟨_, _, _, _, rfl⟩ |
    ⟨_, _, _, _, rfl⟩ | ⟨_, _, _, _, _, rfl⟩ | ⟨_, _, _, _, _, _, _, rfl⟩ | ⟨_, _, _, _, _, _, rfl⟩ |
    ⟨_, _, _, _, _, _, _, _, rfl⟩ | ⟨_, _, _, _, _, _, rfl⟩
  case inr.inl => rw [hh] at h'; cases h'
  all_goals exact ⟨rfl, _, _, rfl⟩

end Sys2Proof.Machine
end

