-- ==== Sys2Proof/Laws/PerInstr.lean ====
section
/-! SUPPORT. Laws of one instruction at a time: the fields of its word are well formed (30_encoding R83,
R84, R93). -/

namespace Sys2Proof

theorem payloadOk_V (v : BitVec 8) : Format.V.payloadOk (payloadV v) = true := by
  have h : (payloadV v).toNat = v.toNat := by unfold payloadV; rw [BitVec.toNat_append]; simp
  have := v.isLt
  simp only [Format.payloadOk, h, decide_eq_true_eq]; omega

theorem payloadOk_VS (speed : SpeedCode) (v : BitVec 8) :
    Format.VS.payloadOk (payloadVS speed v) = true := by
  have h : (payloadVS speed v).toNat < 2 ^ 11 := by
    unfold payloadVS
    rw [BitVec.toNat_append, ← Nat.shiftLeft_add_eq_or_of_lt v.isLt, BitVec.toNat_append]
    have := v.isLt
    have := speed.isLt
    simp [Nat.shiftLeft_eq]; omega
  simp only [Format.payloadOk, decide_eq_true_eq]; omega

end Sys2Proof

namespace Sys2Proof.Laws.WellFormedFields

/-- The instruction's fields pass WellFormed. -/
def Statement (i : Instr) : Prop := (fieldsOf i).wellFormed = true

theorem regPw (pin : Pin) (aux : BitVec 8) : Statement (.regPw pin aux) := rfl

theorem regSv (pin : Pin) (aux : BitVec 8) : Statement (.regSv pin aux) := rfl

theorem regSw (pin : Pin) (aux : BitVec 8) : Statement (.regSw pin aux) := rfl

theorem pwSet (ch : ChanId) (value : Level) : Statement (.pwSet ch value) := payloadOk_V value

theorem svMove (ch : ChanId) (angle : Angle) : Statement (.svMove ch angle) := payloadOk_V angle

theorem pwFade (ch : ChanId) (value : Level) (speed : SpeedCode) : Statement (.pwFade ch value speed) := payloadOk_VS speed value

theorem svMoves (ch : ChanId) (angle : Angle) (speed : SpeedCode) : Statement (.svMoves ch angle speed) := payloadOk_VS speed angle

theorem pwSettled (ch : ChanId) : Statement (.pwSettled ch) := rfl

theorem svSettled (ch : ChanId) : Statement (.svSettled ch) := rfl

theorem pwAllset : Statement .pwAllset := rfl

theorem svAllset : Statement .svAllset := rfl

theorem pwWait (ch : ChanId) : Statement (.pwWait ch) := rfl

theorem svWait (ch : ChanId) : Statement (.svWait ch) := rfl

theorem pwWaitall : Statement .pwWaitall := rfl

theorem svWaitall : Statement .svWaitall := rfl

theorem svRest (ch : ChanId) : Statement (.svRest ch) := rfl

theorem swActive (ch : ChanId) (hold : HoldMs) : Statement (.swActive ch hold) := rfl

end Sys2Proof.Laws.WellFormedFields
end

