-- ==== Sys2Proof/Laws/StepLaw.lean ====
section
/-! SUPPORT. Laws of the step law: its table, the distance, one move, and what StepPW and StepSV answer, as
numbers. -/

namespace Sys2Proof.Machine

theorem stepSize_legal (speed : SpeedCode) (h1 : 1 ≤ speed.toNat) (h5 : speed.toNat ≤ 5) :
    ∃ st, stepSize speed = some st ∧ st.toNat = 2 ^ (speed.toNat - 1) := by
  have table : ∀ x : BitVec 3, 1 ≤ x.toNat → x.toNat ≤ 5 →
      ∃ st, stepSize x = some st ∧ st.toNat = 2 ^ (x.toNat - 1) := by
    intro x h1 h5
    refine ⟨1#8 <<< (x.toNat - 1), by simp [stepSize, h1, h5], ?_⟩
    revert x; decide
  exact table speed h1 h5

theorem stepSize_eq_none_iff (speed : SpeedCode) :
    stepSize speed = none ↔ speed = 0 ∨ speed = 6 ∨ speed = 7 := by
  revert speed; decide

theorem distance_toNat (cur tgt : BitVec 8) : (distance cur tgt).toNat =
    if cur.toNat ≤ tgt.toNat then tgt.toNat - cur.toNat else cur.toNat - tgt.toNat := by
  unfold distance
  split
  · rw [BitVec.toNat_sub_of_le (BitVec.le_def.mpr ‹_›)]
  · rw [BitVec.toNat_sub_of_le (BitVec.le_def.mpr (by omega))]

/-- A move that does not pass the target neither carries nor borrows (R139). -/
theorem moveToward_toNat (cur tgt step : BitVec 8) (h : step.toNat ≤ (distance cur tgt).toNat) :
    (moveToward cur tgt step).toNat =
      if cur.toNat < tgt.toNat then cur.toNat + step.toNat else cur.toNat - step.toNat := by
  have hd := distance_toNat cur tgt
  have ht := tgt.isLt
  unfold moveToward
  split
  · rw [BitVec.toNat_add, Nat.mod_eq_of_lt]
    split at hd <;> omega
  · rw [BitVec.toNat_sub_of_le (BitVec.le_def.mpr ?_)]
    split at hd <;> omega

theorem clampPw_toNat (dist step : BitVec 8) :
    (clampPw dist step).toNat = if dist.toNat < step.toNat then 1 else step.toNat := by
  unfold clampPw; split <;> rfl

theorem clampSv_toNat (dist step : BitVec 8) : (clampSv dist step).toNat = min dist.toNat step.toNat := by
  unfold clampSv; split <;> omega

theorem distance_pos {cur tgt : BitVec 8} (h : cur ≠ tgt) : 1 ≤ (distance cur tgt).toNat := by
  have hne : cur.toNat ≠ tgt.toNat := fun e => h (BitVec.eq_of_toNat_eq e)
  rw [distance_toNat]; split <;> omega

@[simp] theorem stepPw_self (v : Level) (speed : SpeedCode) : stepPw v v speed = some v := by
  simp [stepPw]

@[simp] theorem stepSv_self (v : Angle) (speed : SpeedCode) : stepSv v v speed = some v := by
  simp [stepSv]

theorem stepPw_snap {cur tgt : Level} (h : cur ≠ tgt) : stepPw cur tgt 0 = some tgt := by
  simp [stepPw, h]

/-- StepPW of an unsettled channel with a ramp speed, as numbers: one move of `m` toward the target. -/
theorem stepPw_ramp {cur tgt : Level} {speed : SpeedCode} (h : cur ≠ tgt) (h1 : 1 ≤ speed.toNat)
    (h5 : speed.toNat ≤ 5) :
    ∃ nxt m, stepPw cur tgt speed = some nxt ∧
      m = (if (distance cur tgt).toNat < 2 ^ (speed.toNat - 1) then 1 else 2 ^ (speed.toNat - 1)) ∧
      1 ≤ m ∧ m ≤ (distance cur tgt).toNat ∧
      nxt.toNat = if cur.toNat < tgt.toNat then cur.toNat + m else cur.toNat - m := by
  obtain ⟨st, hst, hv⟩ := stepSize_legal speed h1 h5
  have hpos := distance_pos h
  have hp : 1 ≤ 2 ^ (speed.toNat - 1) := Nat.one_le_two_pow
  have h0 : speed ≠ 0 := by intro e; subst e; exact absurd h1 (by decide)
  refine ⟨moveToward cur tgt (clampPw (distance cur tgt) st), _, by rw [stepPw, if_neg h, if_neg h0, hst]; rfl, rfl, ?_, ?_, ?_⟩
  · split <;> omega
  · split <;> omega
  · rw [moveToward_toNat, clampPw_toNat, hv]
    rw [clampPw_toNat, hv]; split <;> omega

/-- StepSV of an unsettled channel, as numbers: one move of `m` toward the target. -/
theorem stepSv_ramp {cur tgt : Angle} {speed : SpeedCode} (h : cur ≠ tgt) (h1 : 1 ≤ speed.toNat)
    (h5 : speed.toNat ≤ 5) :
    ∃ nxt m, stepSv cur tgt speed = some nxt ∧ m = min (distance cur tgt).toNat (2 ^ (speed.toNat - 1)) ∧
      1 ≤ m ∧ m ≤ (distance cur tgt).toNat ∧
      nxt.toNat = if cur.toNat < tgt.toNat then cur.toNat + m else cur.toNat - m := by
  obtain ⟨st, hst, hv⟩ := stepSize_legal speed h1 h5
  have hpos := distance_pos h
  have hp : 1 ≤ 2 ^ (speed.toNat - 1) := Nat.one_le_two_pow
  refine ⟨moveToward cur tgt (clampSv (distance cur tgt) st), _, by rw [stepSv, if_neg h, hst]; rfl, rfl, ?_, ?_, ?_⟩
  · omega
  · omega
  · rw [moveToward_toNat, clampSv_toNat, hv]
    rw [clampSv_toNat, hv]; omega

/-- In its domain (R142) StepPW answers, between the two ends. -/
theorem stepPw_some (cur tgt : Level) {speed : SpeedCode} (h5 : speed.toNat ≤ 5) :
    ∃ nxt, stepPw cur tgt speed = some nxt := by
  by_cases h : cur = tgt
  · subst h; exact ⟨cur, stepPw_self _ _⟩
  · by_cases h0 : speed = 0
    · subst h0; exact ⟨tgt, stepPw_snap h⟩
    · have h1 : 1 ≤ speed.toNat := by
        rcases Nat.eq_zero_or_pos speed.toNat with e | e
        · exact absurd (BitVec.eq_of_toNat_eq e) h0
        · exact e
      obtain ⟨nxt, _, hn, _⟩ := stepPw_ramp h h1 h5
      exact ⟨nxt, hn⟩

/-- In its domain (R142) StepSV answers, and never leaves the range of the two ends. -/
theorem stepSv_some (cur tgt : Angle) {speed : SpeedCode} (h1 : 1 ≤ speed.toNat) (h5 : speed.toNat ≤ 5) :
    ∃ nxt, stepSv cur tgt speed = some nxt ∧ nxt.toNat ≤ max cur.toNat tgt.toNat := by
  by_cases h : cur = tgt
  · subst h; exact ⟨cur, stepSv_self _ _, by omega⟩
  · obtain ⟨nxt, m, hn, _, _, hm, hv⟩ := stepSv_ramp h h1 h5
    refine ⟨nxt, hn, ?_⟩
    rw [distance_toNat] at hm
    split at hv <;> split at hm <;> omega

end Sys2Proof.Machine
end

