-- ==== Sys2Proof/Laws/Tick.lean ====
section
/-! SUPPORT. Laws of the tick agent: one slot's update, a phase as a pointwise update, and everything a
logic tick and a hardware tick can do. -/

namespace Sys2Proof.Machine

/-- Everything `SV.UPDATE` can do to a slot: the step law's next angle, in place. -/
theorem updateSv_cases {p p' : SvSlot} {e : List Event} (h : updateSv p = some (p', e)) :
    ∃ nxt, stepSv p.currentAngle p.targetAngle p.speed = some nxt ∧ p' = { p with currentAngle := nxt } ∧
      e = if p.currentAngle = p.targetAngle then [] else [.svWrite p.pin nxt] := by
  unfold updateSv settledSv at h
  by_cases hc : p.currentAngle = p.targetAngle
  · simp only [hc, decide_true, if_true, Option.some.injEq, Prod.mk.injEq] at h
    exact ⟨p.currentAngle, by simp [hc], h.1.symm, by simp [hc, h.2]⟩
  · simp only [hc, decide_false, Bool.false_eq_true, if_false, Option.map_eq_some_iff, Prod.mk.injEq] at h
    obtain ⟨nxt, hn, rfl, rfl⟩ := h
    exact ⟨nxt, hn, rfl, by simp [hc]⟩

/-- Everything `PW.UPDATE` can do to a slot. -/
theorem updatePw_cases {p p' : PwSlot} {e : List Event} (h : updatePw p = some (p', e)) :
    ∃ nxt, stepPw p.current p.target p.speed = some nxt ∧ p' = { p with current := nxt } ∧
      e = if p.current = p.target then [] else [.pwWrite p.pin nxt] := by
  unfold updatePw settledPw at h
  by_cases hc : p.current = p.target
  · simp only [hc, decide_true, if_true, Option.some.injEq, Prod.mk.injEq] at h
    exact ⟨p.current, by simp [hc], h.1.symm, by simp [hc, h.2]⟩
  · simp only [hc, decide_false, Bool.false_eq_true, if_false, Option.map_eq_some_iff, Prod.mk.injEq] at h
    obtain ⟨nxt, hn, rfl, rfl⟩ := h
    exact ⟨nxt, hn, rfl, by simp [hc]⟩

/-- `SV.UPDATE` answers wherever the step law does. -/
theorem updateSv_of_step {p : SvSlot} {nxt : Angle}
    (h : stepSv p.currentAngle p.targetAngle p.speed = some nxt) : ∃ r, updateSv p = some r := by
  unfold updateSv; split
  · exact ⟨_, rfl⟩
  · rw [h]; exact ⟨_, rfl⟩

/-- `PW.UPDATE` answers wherever the step law does. -/
theorem updatePw_of_step {p : PwSlot} {nxt : Level} (h : stepPw p.current p.target p.speed = some nxt) :
    ∃ r, updatePw p = some r := by
  unfold updatePw; split
  · exact ⟨_, rfl⟩
  · rw [h]; exact ⟨_, rfl⟩

theorem scanSv_cons {p : SvSlot} {rest l' : List SvSlot} {e : List Event}
    (h : scanSv (p :: rest) = some (l', e)) :
    ∃ p' e1 rest' e2, updateSv p = some (p', e1) ∧ scanSv rest = some (rest', e2) ∧ l' = p' :: rest' ∧
      e = e1 ++ e2 := by
  unfold scanSv at h
  split at h
  · rename_i p' e1 rest' e2 h1 h2
    cases h
    exact ⟨p', e1, rest', e2, h1, h2, rfl, rfl⟩
  · cases h

theorem scanPw_cons {p : PwSlot} {rest l' : List PwSlot} {e : List Event}
    (h : scanPw (p :: rest) = some (l', e)) :
    ∃ p' e1 rest' e2, updatePw p = some (p', e1) ∧ scanPw rest = some (rest', e2) ∧ l' = p' :: rest' ∧
      e = e1 ++ e2 := by
  unfold scanPw at h
  split at h
  · rename_i p' e1 rest' e2 h1 h2
    cases h
    exact ⟨p', e1, rest', e2, h1, h2, rfl, rfl⟩
  · cases h

theorem scanSv_length {l l' : List SvSlot} {e : List Event} (h : scanSv l = some (l', e)) :
    l'.length = l.length := by
  induction l generalizing l' e with
  | nil => cases h; rfl
  | cons p rest ih =>
    obtain ⟨_, _, _, _, _, h2, rfl, _⟩ := scanSv_cons h
    simp [ih h2]

theorem scanPw_length {l l' : List PwSlot} {e : List Event} (h : scanPw l = some (l', e)) :
    l'.length = l.length := by
  induction l generalizing l' e with
  | nil => cases h; rfl
  | cons p rest ih =>
    obtain ⟨_, _, _, _, _, h2, rfl, _⟩ := scanPw_cons h
    simp [ih h2]

/-- The servo phase slot by slot: each slot after it is that slot's own update. -/
theorem scanSv_getElem? {l l' : List SvSlot} {e : List Event} (h : scanSv l = some (l', e)) (j : Nat) :
    (∀ p, l[j]? = some p → ∃ p' e', updateSv p = some (p', e') ∧ l'[j]? = some p') ∧
    (∀ p', l'[j]? = some p' → ∃ p e', l[j]? = some p ∧ updateSv p = some (p', e')) := by
  induction l generalizing l' e j with
  | nil => cases h; simp
  | cons p rest ih =>
    obtain ⟨p', e1, rest', e2, h1, h2, rfl, _⟩ := scanSv_cons h
    cases j with
    | zero => exact ⟨by intro q hq; cases hq; exact ⟨p', e1, h1, rfl⟩,
        by intro q hq; cases hq; exact ⟨p, e1, rfl, h1⟩⟩
    | succ j => simpa using ih h2 j

/-- The pulse-width phase slot by slot. -/
theorem scanPw_getElem? {l l' : List PwSlot} {e : List Event} (h : scanPw l = some (l', e)) (j : Nat) :
    (∀ p, l[j]? = some p → ∃ p' e', updatePw p = some (p', e') ∧ l'[j]? = some p') ∧
    (∀ p', l'[j]? = some p' → ∃ p e', l[j]? = some p ∧ updatePw p = some (p', e')) := by
  induction l generalizing l' e j with
  | nil => cases h; simp
  | cons p rest ih =>
    obtain ⟨p', e1, rest', e2, h1, h2, rfl, _⟩ := scanPw_cons h
    cases j with
    | zero => exact ⟨by intro q hq; cases hq; exact ⟨p', e1, h1, rfl⟩,
        by intro q hq; cases hq; exact ⟨p, e1, rfl, h1⟩⟩
    | succ j => simpa using ih h2 j

/-- The servo phase answers iff every slot's update does. -/
theorem scanSv_isSome {l : List SvSlot} (h : ∀ p ∈ l, ∃ r, updateSv p = some r) :
    ∃ r, scanSv l = some r := by
  induction l with
  | nil => exact ⟨_, rfl⟩
  | cons p rest ih =>
    obtain ⟨⟨p', e1⟩, h1⟩ := h p (by simp)
    obtain ⟨⟨r', e2⟩, h2⟩ := ih (fun q hq => h q (by simp [hq]))
    exact ⟨(p' :: r', e1 ++ e2), by simp [scanSv, h1, h2]⟩

/-- The pulse-width phase answers iff every slot's update does. -/
theorem scanPw_isSome {l : List PwSlot} (h : ∀ p ∈ l, ∃ r, updatePw p = some r) :
    ∃ r, scanPw l = some r := by
  induction l with
  | nil => exact ⟨_, rfl⟩
  | cons p rest ih =>
    obtain ⟨⟨p', e1⟩, h1⟩ := h p (by simp)
    obtain ⟨⟨r', e2⟩, h2⟩ := ih (fun q hq => h q (by simp [hq]))
    exact ⟨(p' :: r', e1 ++ e2), by simp [scanPw, h1, h2]⟩

/-- Everything a logic tick can do when it answers a next state. -/
theorem logicTick_cases {s t : State} (h : logicTick s = .next t) :
    ∃ sv' e1 pw' e2, scanSv s.sv = some (sv', e1) ∧ scanPw s.pw = some (pw', e2) ∧
      t = { s with sv := sv', sw := s.sw.map (latchSw s.lines s.now), pw := pw',
                   trace := s.trace ++ e1 ++ e2 } := by
  unfold logicTick at h
  split at h
  · rename_i sv' e1 pw' e2 h1 h2
    cases h
    exact ⟨sv', e1, pw', e2, h1, h2, rfl⟩
  · cases h

/-- A logic tick answers a next state where both phases answer. -/
theorem logicTick_of_scans {s : State} {sv' : List SvSlot} {pw' : List PwSlot} {e1 e2 : List Event}
    (h1 : scanSv s.sv = some (sv', e1)) (h2 : scanPw s.pw = some (pw', e2)) :
    logicTick s = .next { s with
      sv := sv', sw := s.sw.map (latchSw s.lines s.now), pw := pw', trace := s.trace ++ e1 ++ e2 } := by
  simp [logicTick, h1, h2]

/-- Everything a hardware tick can do when it answers a next state. -/
theorem hwTickOp_cases {s t : State} (h : hwTickOp s = .next t) : s.cfg.tickDiv ≠ 0 ∧
    ((s.tickCount = s.cfg.tickDiv - 1 ∧ logicTick { s with tickCount := 0 } = .next t) ∨
     (s.tickCount ≠ s.cfg.tickDiv - 1 ∧ t = { s with tickCount := s.tickCount + 1 })) := by
  unfold hwTickOp at h
  split at h
  · cases h
  · rename_i hd
    split at h
    · exact ⟨hd, .inl ⟨‹_›, h⟩⟩
    · cases h; exact ⟨hd, .inr ⟨‹_›, rfl⟩⟩

/-- `SW.LATCH` by cases of the sample and the latch (R156). -/
theorem latchSw_inactive {lines : Lines} {t : Time} {p : SwSlot} (h : lines.getLsbD p.pin.toNat = false) :
    latchSw lines t p = { p with latched := false, pressTs := 0 } := by
  simp [latchSw, lineOf, h]

theorem latchSw_edge {lines : Lines} {t : Time} {p : SwSlot} (h : lines.getLsbD p.pin.toNat = true)
    (hl : p.latched = false) : latchSw lines t p = { p with latched := true, pressTs := t } := by
  simp [latchSw, lineOf, h, hl]

theorem latchSw_held {lines : Lines} {t : Time} {p : SwSlot} (h : lines.getLsbD p.pin.toNat = true)
    (hl : p.latched = true) : latchSw lines t p = p := by
  simp [latchSw, lineOf, h, hl]

@[simp] theorem latchSw_pin (lines : Lines) (t : Time) (p : SwSlot) : (latchSw lines t p).pin = p.pin := by
  unfold latchSw; split
  · split <;> rfl
  · rfl

@[simp] theorem latchSw_latched (lines : Lines) (t : Time) (p : SwSlot) :
    (latchSw lines t p).latched = lines.getLsbD p.pin.toNat := by
  unfold latchSw lineOf; split
  · split <;> simp_all
  · simp_all

end Sys2Proof.Machine
end

