-- ==== Sys2Proof/Laws/Step.lean ====
section
/-! SUPPORT. Laws of the step: whose move it is, and everything one step can do. -/

namespace Sys2Proof.Machine

theorem acceptable_some {s : State} {w : Word} :
    acceptable s = some w ↔ s.cmd = some w ∧ wordReady w s = true := by
  unfold acceptable
  cases s.cmd with
  | none => simp
  | some v =>
    by_cases h : wordReady v s = true
    · simp only [h, if_true, Option.some.injEq]
      exact ⟨fun e => ⟨e, e ▸ h⟩, fun e => e.1⟩
    · simp only [h, if_false, Option.some.injEq, Bool.false_eq_true]
      exact ⟨(fun e => absurd e (by simp)), fun e => absurd (e.1 ▸ e.2) h⟩

theorem acceptable_none {s : State} : acceptable s = none ↔ (s.cmd = none ∨ cmdReady s = false) := by
  unfold acceptable cmdReady; split <;> simp_all

/-- Everything a step can do when it answers a next state: the reset, the tick, an accepted word's
transition, or the surroundings' move. -/
theorem step_cases {s t : State} (h : step s = .next t) :
    (s.rst = true ∧ t = resetMove s) ∨
    (s.rst = false ∧ s.hwTick = true ∧ (acceptable s = none ∨ s.cfg.arb = .tickFirst) ∧
      tickMove s = .next t) ∨
    (∃ w, s.rst = false ∧ s.cmd = some w ∧ wordReady w s = true ∧
      (s.hwTick = false ∨ s.cfg.arb = .cmdFirst) ∧ runWord w s = .next t) ∨
    (s.rst = false ∧ s.hwTick = false ∧ acceptable s = none ∧ t = environmentMove s) := by
  have arb2 : s.cfg.arb ≠ .tickFirst → s.cfg.arb = .cmdFirst := by cases s.cfg.arb <;> simp
  unfold step turn at h
  split at h
  · rename_i ht; split at ht
    · cases h; exact .inl ⟨‹_›, rfl⟩
    · split at ht <;> (split at ht <;> cases ht)
  · rename_i ht; split at ht
    · cases ht
    · rename_i hr; split at ht
      · split at ht
        · exact .inr (.inl ⟨by simpa using hr, ‹_›, .inl ‹_›, h⟩)
        · cases ht
      · split at ht
        · rename_i hb; simp at hb
          exact .inr (.inl ⟨by simpa using hr, hb.1, .inr hb.2, h⟩)
        · cases ht
  · rename_i w ht; split at ht
    · cases ht
    · rename_i hr; split at ht
      · split at ht <;> cases ht
      · rename_i v hv; split at ht
        · cases ht
        · rename_i hb; cases ht
          obtain ⟨hc, hw⟩ := acceptable_some.mp hv
          refine .inr (.inr (.inl ⟨w, by simpa using hr, hc, hw, ?_, h⟩))
          cases hk : s.hwTick with
          | false => exact .inl rfl
          | true => simp [hk] at hb; exact .inr (arb2 hb)
  · rename_i ht; split at ht
    · cases ht
    · rename_i hr; split at ht
      · split at ht
        · cases ht
        · cases h; exact .inr (.inr (.inr ⟨by simpa using hr, by simpa using ‹¬s.hwTick = true›, ‹_›, rfl⟩))
      · split at ht <;> cases ht

theorem step_of_reset {s : State} (h : s.rst = true) : step s = .next (resetMove s) := by
  simp [step, turn, h]

theorem step_of_tick {s : State} (h : s.rst = false) (ht : s.hwTick = true)
    (ha : acceptable s = none ∨ s.cfg.arb = .tickFirst) : step s = tickMove s := by
  rcases ha with ha | ha
  · simp [step, turn, h, ht, ha]
  · cases hw : acceptable s <;> simp [step, turn, h, ht, ha, hw]

theorem step_of_command {s : State} {w : Word} (h : s.rst = false) (hc : s.cmd = some w)
    (hw : wordReady w s = true) (ha : s.hwTick = false ∨ s.cfg.arb = .cmdFirst) :
    step s = runWord w s := by
  have e := acceptable_some.mpr ⟨hc, hw⟩
  rcases ha with ha | ha <;> simp [step, turn, h, e, ha]

theorem step_of_environment {s : State} (h : s.rst = false) (ht : s.hwTick = false)
    (ha : acceptable s = none) : step s = .next (environmentMove s) := by
  simp [step, turn, h, ht, ha]

/-- An accepted or held word either is a command's transition or is answered `IllegalCommand` (R90). -/
theorem runWord_cases {w : Word} {s t : State} (h : runWord w s = .next t) :
    (∃ i, decode w = .ok i ∧ exec i s = .next t) ∨
    ((∃ e, decode w = .error e) ∧ t = raise .illegalCommand s) := by
  unfold runWord at h
  split at h
  · exact .inl ⟨_, ‹_›, h⟩
  · cases h; exact .inr ⟨⟨_, ‹_›⟩, rfl⟩

/-- What the surroundings' move leaves alone: the block, its parameters and the host mark. -/
theorem environmentMove_block (s : State) :
    (environmentMove s).cfg = s.cfg ∧ (environmentMove s).pw = s.pw ∧ (environmentMove s).sv = s.sv ∧
    (environmentMove s).sw = s.sw ∧ (environmentMove s).tickCount = s.tickCount ∧
    (environmentMove s).trace = s.trace ∧ (environmentMove s).hostMark = s.hostMark ∧
    (environmentMove s).rsp = none := by
  unfold environmentMove; split <;> exact ⟨rfl, rfl, rfl, rfl, rfl, rfl, rfl, rfl⟩

/-- A word on the port stays there through the surroundings' move. -/
theorem environmentMove_cmd {s : State} {w : Word} (h : s.cmd = some w) :
    (environmentMove s).cmd = some w := by
  unfold environmentMove; split <;> simp [h]

/-- Everything a hardware tick can do to the whole state. -/
theorem tickMove_cases {s t : State} (h : tickMove s = .next t) : s.cfg.tickDiv ≠ 0 ∧
    ((s.tickCount ≠ s.cfg.tickDiv - 1 ∧
        t = { s with hwTick := false, rsp := none, tickCount := s.tickCount + 1 }) ∨
     (s.tickCount = s.cfg.tickDiv - 1 ∧ ∃ sv' e1 pw' e2, scanSv s.sv = some (sv', e1) ∧
        scanPw s.pw = some (pw', e2) ∧
        t = { s with
          hwTick := false, rsp := none, tickCount := 0, sv := sv', pw := pw',
          sw := s.sw.map (latchSw s.lines s.now), trace := s.trace ++ e1 ++ e2 })) := by
  obtain ⟨hd, h | h⟩ := hwTickOp_cases (s := { s with hwTick := false, rsp := none }) h
  · obtain ⟨hc, hl⟩ := h
    obtain ⟨sv', e1, pw', e2, h1, h2, rfl⟩ := logicTick_cases hl
    exact ⟨hd, .inr ⟨hc, sv', e1, pw', e2, h1, h2, rfl⟩⟩
  · exact ⟨hd, .inl ⟨h.1, h.2⟩⟩

/-- A hardware tick keeps the counters, and leaves a settled slot settled. -/
theorem tickMove_settled {s t : State} (h : tickMove s = .next t) :
    (∀ j : Nat, s.pw[j]? = none → t.pw[j]? = none) ∧ (∀ j : Nat, s.sv[j]? = none → t.sv[j]? = none) ∧
    (∀ (j : Nat) (p q : PwSlot), s.pw[j]? = some p → t.pw[j]? = some q → settledPw p = true →
      settledPw q = true) ∧
    (∀ (j : Nat) (p q : SvSlot), s.sv[j]? = some p → t.sv[j]? = some q → settledSv p = true →
      settledSv q = true) := by
  rcases (tickMove_cases h).2 with ⟨_, rfl⟩ | ⟨_, sv', e1, pw', e2, h1, h2, rfl⟩
  · exact ⟨fun _ h => h, fun _ h => h, fun j p q hp hq hs => by rw [hp] at hq; cases hq; exact hs,
      fun j p q hp hq hs => by rw [hp] at hq; cases hq; exact hs⟩
  · refine ⟨?_, ?_, ?_, ?_⟩
    · intro j hj; simpa [scanPw_length h2] using hj
    · intro j hj; simpa [scanSv_length h1] using hj
    · intro j p q hp hq hs
      obtain ⟨p', _, hu, hj⟩ := (scanPw_getElem? h2 j).1 p hp
      simp only [hj, Option.some.injEq] at hq; subst hq
      rw [updatePw, if_pos hs] at hu; cases hu; exact hs
    · intro j p q hp hq hs
      obtain ⟨p', _, hu, hj⟩ := (scanSv_getElem? h1 j).1 p hp
      simp only [hj, Option.some.injEq] at hq; subst hq
      rw [updateSv, if_pos hs] at hu; cases hu; exact hs

/-- A hardware tick never makes a command wait that did not wait before it. -/
theorem held_of_tickMove {i : Instr} {s t : State} (h : tickMove s = .next t) (hi : held i s = false) :
    held i t = false := by
  obtain ⟨np, ns, kp, ks⟩ := tickMove_settled h
  have pw (ch : ChanId) (h : (match selectPw ch s with | none => false | some p => !settledPw p) = false) :
      (match selectPw ch t with | none => false | some p => !settledPw p) = false := by
    simp only [selectPw] at h ⊢
    cases ht : t.pw[ch.toNat]? with
    | none => rfl
    | some q => cases hs : s.pw[ch.toNat]? with
      | none => rw [np _ hs] at ht; cases ht
      | some p => simp only [hs, Bool.not_eq_false'] at h; simp [kp _ p q hs ht h]
  have sv (ch : ChanId) (h : (match selectSv ch s with | none => false | some p => !settledSv p) = false) :
      (match selectSv ch t with | none => false | some p => !settledSv p) = false := by
    simp only [selectSv] at h ⊢
    cases ht : t.sv[ch.toNat]? with
    | none => rfl
    | some q => cases hs : s.sv[ch.toNat]? with
      | none => rw [ns _ hs] at ht; cases ht
      | some p => simp only [hs, Bool.not_eq_false'] at h; simp [ks _ p q hs ht h]
  cases i
  case pwWait ch => exact pw ch hi
  case svWait ch => exact sv ch hi
  case svRest ch => exact sv ch hi
  case pwWaitall =>
    simp only [held, Bool.not_eq_false', allsetPw, List.all_eq_true] at hi ⊢
    intro q hq
    obtain ⟨j, hj⟩ := List.getElem?_of_mem hq
    cases hs : s.pw[j]? with
    | none => rw [np j hs] at hj; cases hj
    | some p => exact kp j p q hs hj (hi p (List.mem_of_getElem? hs))
  case svWaitall =>
    simp only [held, Bool.not_eq_false', allsetSv, List.all_eq_true] at hi ⊢
    intro q hq
    obtain ⟨j, hj⟩ := List.getElem?_of_mem hq
    cases hs : s.sv[j]? with
    | none => rw [ns j hs] at hj; cases hj
    | some p => exact ks j p q hs hj (hi p (List.mem_of_getElem? hs))
  all_goals rfl

/-- A word that was ready before a hardware tick is ready after it. -/
theorem wordReady_of_tickMove {w : Word} {s t : State} (h : tickMove s = .next t)
    (hw : wordReady w s = true) : wordReady w t = true := by
  unfold wordReady at hw ⊢
  cases hd : decode w with
  | ok i =>
    simp only [hd, Bool.not_eq_true'] at hw ⊢
    exact held_of_tickMove h hw
  | error e => rfl

end Sys2Proof.Machine
end

