-- ==== Sys2Proof/Tests/Slice0.lean ====
section
/-! SUPPORT. Tests on fixed values: words written out from the encodings of 30_encoding, ill-formed fields,
the vectors of 95_test_vectors, and for every statement with hypotheses a state and operands that meet
them. -/

namespace Sys2Proof.Tests

open Sys2Proof.Machine Sys2Proof.Claims

/-- A block with every parameter given: the defaults of R8, `SV_SPEED_RESET` 2, ticks first. -/
def cfgT : Config := ⟨8, 8, 8, 25, 180, 0, 2, true, .tickFirst⟩

/-- The reset state with these slots registered. -/
def board (pw : List PwSlot) (sv : List SvSlot) (sw : List SwSlot) : State :=
  { State.reset with cfg := cfgT, pw := pw, sv := sv, sw := sw }

/-- The outcome is a next state that passes. -/
def gives (o : Result) (f : State → Bool) : Bool :=
  match o with
  | .next t => f t
  | .fault _ | .refused _ => false

/-- The state with this `tick_count`. -/
def atCount (n : Nat) (s : State) : State := { s with tickCount := n }

/-- One slot of each kind, all settled. -/
def one : State := board [⟨9, 50, 50, 2⟩] [⟨10, 90, 90, 2, true⟩] [⟨2, true, 1025⟩]

/-- One slot of each kind, the channels in motion. -/
def moving : State := board [⟨4, 196, 200, 3⟩] [⟨10, 12, 10, 1, true⟩] [⟨2, false, 0⟩]

/-- Every table full. -/
def full : State :=
  board (List.replicate 8 ⟨3, 0, 0, 0⟩) (List.replicate 8 ⟨10, 90, 90, 2, true⟩)
    (List.replicate 8 ⟨2, false, 0⟩)

/-- Every table one short of full. -/
def almostFull : State :=
  board (List.replicate 7 ⟨3, 0, 0, 0⟩) (List.replicate 7 ⟨10, 90, 90, 2, true⟩)
    (List.replicate 7 ⟨2, false, 0⟩)

/-! ### Decoding: op, kind, z1, ch, z2, payload, bit by bit (R80 to R89) -/

theorem test_decode_regPw : decode 0b0001_00_00_0000_0000_11111111_00001001 = .ok (.regPw 9 255) := by decide
theorem test_decode_regSv : decode 0b0001_01_00_0000_0000_00001011_00001010 = .ok (.regSv 10 11) := by decide
theorem test_decode_regSw : decode 0b0001_10_00_0000_0000_00000000_00000010 = .ok (.regSw 2 0) := by decide
theorem test_decode_pwSet : decode 0b0010_00_00_1111_0000_00000000_11111110 = .ok (.pwSet 15 254) := by decide
theorem test_decode_svMove : decode 0b0010_01_00_0000_0000_00000000_01011010 = .ok (.svMove 0 90) := by decide
theorem test_decode_pwFade : decode 0b0011_00_00_0111_0000_00000_101_00010000 = .ok (.pwFade 7 16 5) := by decide
theorem test_decode_svMoves : decode 0b0011_01_00_0011_0000_00000_100_10110100 = .ok (.svMoves 3 180 4) := by
  decide
theorem test_decode_pwSettled : decode 0b0100_00_00_0010_0000_0000000000000000 = .ok (.pwSettled 2) := by decide
theorem test_decode_svSettled : decode 0b0100_01_00_0001_0000_0000000000000000 = .ok (.svSettled 1) := by decide
theorem test_decode_pwAllset : decode 0b0101_00_00_0000_0000_0000000000000000 = .ok .pwAllset := by decide
theorem test_decode_svAllset : decode 0b0101_01_00_0000_0000_0000000000000000 = .ok .svAllset := by decide
theorem test_decode_pwWait : decode 0b0110_00_00_0010_0000_0000000000000000 = .ok (.pwWait 2) := by decide
theorem test_decode_svWait : decode 0b0110_01_00_0100_0000_0000000000000000 = .ok (.svWait 4) := by decide
theorem test_decode_pwWaitall : decode 0b0111_00_00_0000_0000_0000000000000000 = .ok .pwWaitall := by decide
theorem test_decode_svWaitall : decode 0b0111_01_00_0000_0000_0000000000000000 = .ok .svWaitall := by decide
theorem test_decode_svRest : decode 0b1000_01_00_1000_0000_0000000000000000 = .ok (.svRest 8) := by decide
theorem test_decode_swActive : decode 0b1001_10_00_1111_0000_1111111111111110 = .ok (.swActive 15 65534) := by
  decide

/-- V-ENC: the illegal words, one of each cause. -/
theorem test_decode_illegal :
    decode 0x300008C8 = .error .mustBeZero ∧ decode 0x50100000 = .error .mustBeZero ∧
    decode 0x84000001 = .error .mustBeZero ∧ decode 0x11000009 = .error .mustBeZero ∧
    decode 0x20010000 = .error .mustBeZero ∧ decode 0x20000100 = .error .mustBeZero ∧
    decode 0x80000000 = .error .noSuchPair ∧ decode 0x94000064 = .error .noSuchPair ∧
    decode 0x48000000 = .error .noSuchPair ∧ decode 0x1C000009 = .error .reservedKind ∧
    decode 0x00000000 = .error .reservedOp ∧ decode 0xA0000000 = .error .reservedOp := by decide

theorem test_decodeTableWord : decodeTableWord 32 0x300003C8 = some (.pwFade 0 200 3) ∧
    decodeTableWord 32 0x300008C8 = none := by decide

/-! ### WellFormed: a term that passes, and an ill-formed one for each check -/

theorem test_wellFormed : (fieldsOf (.pwFade 15 255 7)).wellFormed = true := by decide
theorem test_illFormed_pair : (⟨8, 0, 0, 0, 0, 0⟩ : Fields).wellFormed = false := by decide
theorem test_illFormed_z1 : (⟨9, 2, 1, 0, 0, 100⟩ : Fields).wellFormed = false := by decide
theorem test_illFormed_z2 : (⟨2, 0, 0, 0, 1, 0⟩ : Fields).wellFormed = false := by decide
theorem test_illFormed_ch_R : (⟨1, 0, 0, 1, 0, 9⟩ : Fields).wellFormed = false := by decide
theorem test_illFormed_ch_K : (⟨5, 0, 0, 1, 0, 0⟩ : Fields).wellFormed = false := by decide
theorem test_illFormed_payload_V : (⟨2, 0, 0, 0, 0, 0x0100⟩ : Fields).wellFormed = false := by decide
theorem test_illFormed_payload_VS : (⟨3, 0, 0, 0, 0, 0x0800⟩ : Fields).wellFormed = false := by decide
theorem test_illFormed_payload_C : (⟨8, 1, 0, 0, 0, 1⟩ : Fields).wellFormed = false := by decide
theorem test_illFormed_payload_K : (⟨7, 0, 0, 0, 0, 1⟩ : Fields).wellFormed = false := by decide

/-! ### The commands, one step each (V-REG, V-CMD, V-SW, V-ERR) -/

theorem test_regPw_second : gives (exec (.regPw 3 0) (board [⟨9, 0, 0, 0⟩] [] [])) (fun t =>
    decide (t.rsp = some 0x00000001 ∧ t.pw = [⟨9, 0, 0, 0⟩, ⟨3, 0, 0, 0⟩] ∧ t.trace = [.pinMode 3 .out])) = true := by
  decide
theorem test_regPw_full : gives (exec (.regPw 11 0) full) (fun t =>
    decide (t.rsp = some 0x100000FF ∧ t.pw = full.pw ∧ t.trace = [])) = true := by decide
theorem test_regSv : gives (exec (.regSv 10 11) (board [] [] [])) (fun t =>
    decide (t.rsp = some 0 ∧ t.sv = [⟨10, 90, 90, 2, true⟩] ∧
      t.trace = [.pinMode 10 .out, .svAttach 10])) = true := by decide
theorem test_regSv_unattached :
    gives (exec (.regSv 10 0) { board [] [] [] with cfg := { cfgT with svAttachAtReg := false } }) (fun t =>
      decide (t.sv = [⟨10, 90, 90, 2, false⟩] ∧ t.trace = [.pinMode 10 .out])) = true := by decide
theorem test_regSw : gives (exec (.regSw 2 0) (board [] [] [])) (fun t =>
    decide (t.rsp = some 0 ∧ t.sw = [⟨2, false, 0⟩] ∧ t.trace = [.pinMode 2 .inp])) = true := by decide
theorem test_pwSet : gives (exec (.pwSet 0 255) one) (fun t =>
    decide (t.rsp = some 0 ∧ t.pw = [⟨9, 50, 255, 2⟩] ∧ t.trace = [])) = true := by decide
theorem test_pwSet_lastSlot : gives (exec (.pwSet 7 1) full) (fun t => decide (t.rsp = some 0)) = true ∧
    gives (exec (.pwSet 8 1) full) (fun t => decide (t.rsp = some 0x20000000)) = true := by decide
theorem test_pwFade_speedAlone : gives (exec (.pwFade 0 50 5) one) (fun t =>
    decide (t.rsp = some 0 ∧ t.pw = [⟨9, 50, 50, 5⟩])) = true := by decide
theorem test_pwFade_badSpeed : gives (exec (.pwFade 0 60 6) one) (fun t =>
    decide (t.rsp = some 0x30000000 ∧ t.pw = one.pw)) = true := by decide
theorem test_svMove_reattach : gives (exec (.svMove 0 90) (board [] [⟨10, 10, 10, 1, false⟩] [])) (fun t =>
    decide (t.rsp = some 0 ∧ t.sv = [⟨10, 10, 90, 1, true⟩] ∧ t.trace = [.svAttach 10])) = true := by decide
theorem test_svMove_badAngle : gives (exec (.svMove 0 181) (board [] [⟨10, 10, 10, 1, false⟩] [])) (fun t =>
    decide (t.rsp = some 0x40000000 ∧ t.sv = [⟨10, 10, 10, 1, false⟩] ∧ t.trace = [])) = true := by decide
theorem test_svMoves : gives (exec (.svMoves 0 10 1) one) (fun t =>
    decide (t.rsp = some 0 ∧ t.sv = [⟨10, 90, 10, 1, true⟩] ∧ t.trace = [])) = true := by decide
theorem test_svMoves_errorOrder :
    gives (exec (.svMoves 1 200 7) one) (fun t => decide (t.rsp = some 0x20000000)) = true ∧
    gives (exec (.svMoves 0 200 7) one) (fun t => decide (t.rsp = some 0x30000000)) = true ∧
    gives (exec (.svMoves 0 200 3) one) (fun t => decide (t.rsp = some 0x40000000)) = true ∧
    gives (exec (.svMoves 0 180 5) one) (fun t => decide (t.rsp = some 0)) = true := by decide
theorem test_pwSettled : gives (exec (.pwSettled 0) one) (fun t => decide (t.rsp = some 1)) = true ∧
    gives (exec (.pwSettled 0) moving) (fun t => decide (t.rsp = some 0)) = true := by decide
theorem test_svSettled_perKind : gives (exec (.svSettled 0) moving) (fun t => decide (t.rsp = some 0)) = true ∧
    gives (exec (.svSettled 1) one) (fun t => decide (t.rsp = some 0x20000000)) = true := by decide
theorem test_pwAllset : gives (exec .pwAllset (board [⟨5, 7, 7, 1⟩, ⟨6, 3, 4, 1⟩] [] [])) (fun t =>
    decide (t.rsp = some 0)) = true := by decide
theorem test_svAllset_empty : gives (exec .svAllset (board [] [] [])) (fun t =>
    decide (t.rsp = some 1)) = true := by decide
theorem test_pwWait_held : gives (exec (.pwWait 0) { moving with cmd := some 0x60000000 }) (fun t =>
    decide (t.rsp = none ∧ t.cmd = some 0x60000000)) = true := by decide
theorem test_pwWait_invalid : gives (exec (.pwWait 1) moving) (fun t =>
    decide (t.rsp = some 0x20000000 ∧ t.cmd = none)) = true := by decide
theorem test_svWait : gives (exec (.svWait 0) one) (fun t =>
    decide (t.rsp = some 0 ∧ t.sv = one.sv)) = true := by decide
theorem test_pwWaitall_held : gives (exec .pwWaitall { moving with cmd := some 0x70000000 }) (fun t =>
    decide (t.rsp = none ∧ t.cmd = some 0x70000000)) = true := by decide
theorem test_svWaitall_empty : gives (exec .svWaitall (board [] [] [])) (fun t =>
    decide (t.rsp = some 0)) = true := by decide
theorem test_svRest : gives (exec (.svRest 0) one) (fun t =>
    decide (t.rsp = some 0 ∧ t.sv = [⟨10, 90, 90, 2, false⟩] ∧ t.trace = [.svDetach 10])) = true := by decide
theorem test_svRest_detached : gives (exec (.svRest 0) (board [] [⟨10, 90, 90, 2, false⟩] [])) (fun t =>
    decide (t.rsp = some 0 ∧ t.sv = [⟨10, 90, 90, 2, false⟩] ∧ t.trace = [])) = true := by decide
theorem test_swActive_hold :
    gives (exec (.swActive 0 100) { one with now := 1124 }) (fun t => decide (t.rsp = some 0)) = true ∧
    gives (exec (.swActive 0 100) { one with now := 1125 }) (fun t => decide (t.rsp = some 1)) = true := by decide
theorem test_swActive_wrap :
    gives (exec (.swActive 0 356) { board [] [] [⟨2, true, 0xFFFFFF00⟩] with now := 0x64 })
      (fun t => decide (t.rsp = some 1)) = true ∧
    gives (exec (.swActive 0 357) { board [] [] [⟨2, true, 0xFFFFFF00⟩] with now := 0x64 })
      (fun t => decide (t.rsp = some 0)) = true := by decide

/-! ### The step law and the tick agent (V-PW, V-SV, V-TICK, V-SW) -/

theorem test_stepPw : stepPw 0 200 3 = some 4 ∧ stepPw 196 200 3 = some 200 ∧ stepPw 197 200 3 = some 198 ∧
    stepPw 10 250 0 = some 250 ∧ stepPw 255 0 5 = some 239 ∧ stepPw 15 0 5 = some 14 ∧
    stepPw 254 255 5 = some 255 ∧ stepPw 1 0 5 = some 0 := by decide
theorem test_stepSv : stepSv 90 10 5 = some 74 ∧ stepSv 90 100 5 = some 100 ∧ stepSv 94 97 3 = some 97 ∧
    stepSv 176 180 4 = some 180 ∧ stepSv 0 16 5 = some 16 ∧ stepSv 4 0 5 = some 0 := by decide
/-- R140: 0 to 31 at speed 5 takes 1 + 15 applications; the servo 11 to 90 at speed 5 takes 5. -/
theorem test_counts : countPw 0 31 5 = 16 ∧ countSv 11 90 5 = 5 ∧ rampPw 31 5 16 0 = some 31 ∧
    rampSv 90 5 5 11 = some 90 ∧ rampSv 90 5 4 11 = some 75 := by decide
/-- V-TICK: the order inside one logic tick. -/
theorem test_logicTick_order :
    gives (logicTick { board [⟨5, 0, 8, 4⟩, ⟨6, 0, 8, 3⟩] [⟨10, 90, 94, 3, true⟩, ⟨11, 90, 80, 5, true⟩]
        [⟨2, false, 0⟩] with lines := 4, now := 500 }) (fun t =>
      decide (t.trace = [.svWrite 10 94, .svWrite 11 80, .pwWrite 5 8, .pwWrite 6 4] ∧
        t.sw = [⟨2, true, 500⟩])) = true := by decide
/-- V-TICK: the 24th hardware tick counts, the 25th performs the logic tick. -/
theorem test_hwTick_divider :
    gives (hwTickOp { moving with tickCount := 23 }) (fun t => decide (t.tickCount = 24 ∧ t.pw = moving.pw)) = true ∧
    gives (hwTickOp { moving with tickCount := 24 }) (fun t =>
      decide (t.tickCount = 0 ∧ t.pw = [⟨4, 200, 200, 3⟩] ∧ t.sv = [⟨10, 11, 10, 1, true⟩])) = true := by decide
/-- V-SW: latch, keep, clear, and the latch at clock 0. -/
theorem test_latchSw : latchSw 4 1025 ⟨2, false, 0⟩ = ⟨2, true, 1025⟩ ∧
    latchSw 4 1050 ⟨2, true, 1025⟩ = ⟨2, true, 1025⟩ ∧ latchSw 0 1075 ⟨2, true, 1025⟩ = ⟨2, false, 0⟩ ∧
    latchSw 4 0 ⟨2, false, 0⟩ = ⟨2, true, 0⟩ := by decide

/-! ### Whose move it is -/

/-- R34, R241: a held `PW.WAITALL`, the reset, and its answer. -/
theorem test_step_reset :
    gives (step { moving with cmd := some 0x70000000, rst := true }) (fun t =>
      decide (t.pw = [] ∧ t.cmd = some 0x70000000) &&
        gives (step t) (fun u => decide (u.rsp = some 0))) = true := by decide
/-- R221 with ticks first: the tick, then the command. -/
theorem test_step_arb :
    gives (step { moving with cmd := some 0x40000000, hwTick := true, tickCount := 24 }) (fun t =>
      decide (t.cmd = some 0x40000000 ∧ t.rsp = none) &&
        gives (step t) (fun u => decide (u.rsp = some 1))) = true := by decide
/-- V-TICK through the step: a strobe at tick_count 24 performs the logic tick, with an empty port and with
a held command. -/
theorem test_step_tick :
    gives (step { moving with hwTick := true, tickCount := 24 }) (fun t =>
      decide (t.tickCount = 0 ∧ t.hwTick = false ∧ t.pw = [⟨4, 200, 200, 3⟩])) = true ∧
    gives (step { moving with cmd := some 0x84000000, hwTick := true, tickCount := 23 }) (fun t =>
      decide (t.tickCount = 24 ∧ t.cmd = some 0x84000000 ∧ t.pw = moving.pw)) = true := by decide
/-- The host's law of R34 and the clock's of R36. -/
theorem test_step_environment :
    gives (step { moving with
        cmd := some 0x60000000, now := 0xFFFFFFFF, env := [⟨false, true, some 0x50000000, 4, 3⟩] }) (fun t =>
      decide (t.cmd = some 0x60000000 ∧ t.hwTick = true ∧ t.lines = 4 ∧ t.now = 2 ∧ t.env = [])) = true := by
  decide

/-! ### States and operands that meet the hypotheses of the statements -/

theorem witness_RegistrationAppendsOneSlotOrReportsCapacity :
    cfgT.Legal ∧ (full.pw.length = full.cfg.capPw ∧ almostFull.pw.length < almostFull.cfg.capPw) ∧
    (full.sv.length = full.cfg.capSv ∧ almostFull.sv.length < almostFull.cfg.capSv) ∧
    (full.sw.length = full.cfg.capSw ∧ almostFull.sw.length < almostFull.cfg.capSw) ∧
    0x1000FF09#32 &&& 0xFFFF0000#32 = 0x10000000#32 ∧ 0x14000B0A#32 &&& 0xFFFF0000#32 = 0x14000000#32 ∧
    0x18000002#32 &&& 0xFFFF0000#32 = 0x18000000#32 := by decide

theorem witness_PulseWidthCommandsWriteTargetAndSpeedOnly :
    one.pw.length ≤ (1 : ChanId).toNat ∧ one.pw[(0 : ChanId).toNat]? = some ⟨9, 50, 50, 2⟩ ∧
    (0 : SpeedCode).toNat < 1 ∧ 5 < (6 : SpeedCode).toNat ∧
    (1 ≤ (1 : SpeedCode).toNat ∧ (5 : SpeedCode).toNat ≤ 5) ∧
    0x20F000FF#32 &&& 0xFF0FFF00#32 = 0x20000000#32 ∧ 0x300007C8#32 &&& 0xFF0FF800#32 = 0x30000000#32 := by decide

theorem witness_ServoMovesAttachAndSetTarget :
    one.sv.length ≤ (1 : ChanId).toNat ∧ one.sv[(0 : ChanId).toNat]? = some ⟨10, 90, 90, 2, true⟩ ∧
    one.cfg.svAngleMax.toNat < (181 : Angle).toNat ∧ (180 : Angle).toNat ≤ one.cfg.svAngleMax.toNat ∧
    (0 : SpeedCode).toNat < 1 ∧ 5 < (6 : SpeedCode).toNat ∧
    (1 ≤ (1 : SpeedCode).toNat ∧ (5 : SpeedCode).toNat ≤ 5) ∧
    0x240000FF#32 &&& 0xFF0FFF00#32 = 0x24000000#32 ∧ 0x343004B4#32 &&& 0xFF0FF800#32 = 0x34000000#32 := by decide

theorem witness_RestDetachesOnceSettled :
    one.sv.length ≤ (1 : ChanId).toNat ∧ one.sv[(0 : ChanId).toNat]? = some ⟨10, 90, 90, 2, true⟩ ∧
    moving.sv[(0 : ChanId).toNat]? = some ⟨10, 12, 10, 1, true⟩ ∧
    0x84F00000#32 &&& 0xFF0FFFFF#32 = 0x84000000#32 := by decide

/-- For the settled queries, the waits and the scans: an invalid channel, a settled one, a moving one. -/
theorem witness_SettledQueries_Waits_Scans :
    one.pw.length ≤ (1 : ChanId).toNat ∧ one.sv.length ≤ (1 : ChanId).toNat ∧
    one.pw[(0 : ChanId).toNat]? = some ⟨9, 50, 50, 2⟩ ∧ moving.pw[(0 : ChanId).toNat]? = some ⟨4, 196, 200, 3⟩ ∧
    one.sv[(0 : ChanId).toNat]? = some ⟨10, 90, 90, 2, true⟩ ∧
    moving.sv[(0 : ChanId).toNat]? = some ⟨10, 12, 10, 1, true⟩ ∧
    (∀ p ∈ one.pw, p.current = p.target) ∧ (∃ p ∈ moving.pw, p.current ≠ p.target) ∧
    (∀ p ∈ one.sv, p.currentAngle = p.targetAngle) ∧ (∃ p ∈ moving.sv, p.currentAngle ≠ p.targetAngle) ∧
    0x40F00000#32 &&& 0xFF0FFFFF#32 = 0x40000000#32 ∧ 0x44F00000#32 &&& 0xFF0FFFFF#32 = 0x44000000#32 ∧
    0x60F00000#32 &&& 0xFF0FFFFF#32 = 0x60000000#32 ∧ 0x64F00000#32 &&& 0xFF0FFFFF#32 = 0x64000000#32 ∧
    0x50000000#32 &&& 0xFFFFFFFF#32 = 0x50000000#32 ∧ 0x54000000#32 &&& 0xFFFFFFFF#32 = 0x54000000#32 ∧
    0x70000000#32 &&& 0xFFFFFFFF#32 = 0x70000000#32 ∧ 0x74000000#32 &&& 0xFFFFFFFF#32 = 0x74000000#32 := by decide

theorem witness_SwitchQueryTestsLatchAndHoldTime :
    one.sw.length ≤ (1 : ChanId).toNat ∧ one.sw[(0 : ChanId).toNat]? = some ⟨2, true, 1025⟩ ∧
    0x98F0FFFF#32 &&& 0xFF0F0000#32 = 0x98000000#32 := by decide

theorem witness_EncodeOfDecodeIsTheWord : decode 0x300003C8 = .ok (.pwFade 0 200 3) := by decide

theorem witness_DecoderFollowsMatchAndMask :
    (∀ r ∈ rows, r.value &&& r.mask = r.value) ∧ decode 0x20F00000 = .ok (.pwSet 15 0) := by decide

/-- V-ENC's illegal words for each clause. -/
theorem witness_ReservedEncodingsAreRejected :
    (0x80000000#32).extractLsb' 24 8 = 0x80#8 ∧ (0x1C000009#32).extractLsb' 26 2 = 3#2 ∧
    (0x11000009#32).extractLsb' 24 2 ≠ 0#2 ∧ (0x20010000#32).extractLsb' 16 4 ≠ 0#4 ∧
    ((0x10100009#32).extractLsb' 28 4 = 1#4 ∧ (0x10100009#32).extractLsb' 20 4 ≠ 0#4) ∧
    ((0x20000100#32).extractLsb' 28 4 = 2#4 ∧ (0x20000100#32).extractLsb' 8 8 ≠ 0#8) ∧
    ((0x300008C8#32).extractLsb' 28 4 = 3#4 ∧ (0x300008C8#32).extractLsb' 11 5 ≠ 0#5) ∧
    ((0x84000001#32).extractLsb' 28 4 = 8#4 ∧ (0x84000001#32).extractLsb' 0 16 ≠ 0#16) := by decide

theorem witness_WordsOutsideTheListAreIllegal :
    (∀ r ∈ rows, (0xFFFFFFFF#32 : Word) &&& r.mask ≠ r.value) ∧
    (one.withFetchWord 32 0xFFFFFFFF).cmd = some 0xFFFFFFFF ∧ (one.withFetchWord 32 0xFFFFFFFF).rst = false ∧
    (one.withFetchWord 32 0xFFFFFFFF).hwTick = false := by decide

/-- An error of each status 1 to 4, for the statements about errors. -/
theorem witness_ErrorsWriteNothing_NothingIsRememberedOfAnError :
    gives (exec (.regSw 1 0) full) (fun t => decide (t.rsp = some 0x100000FF)) = true ∧
    gives (exec (.swActive 1 0) one) (fun t => decide (t.rsp = some 0x20000000)) = true ∧
    gives (exec (.pwFade 0 60 0) one) (fun t => decide (t.rsp = some 0x30000000)) = true ∧
    gives (exec (.svMove 0 181) one) (fun t => decide (t.rsp = some 0x40000000)) = true ∧
    (0x100000FF#32).extractLsb' 28 4 ≠ 0#4 ∧ (0x20000000#32).extractLsb' 28 4 ≠ 0#4 ∧
    (0x30000000#32).extractLsb' 28 4 ≠ 0#4 ∧ (0x40000000#32).extractLsb' 28 4 ≠ 0#4 ∧
    held (.pwWait 0) one = false := by decide

theorem witness_OnlyTheFirstErrorIsReported :
    decode 0x341008C8 = .error .mustBeZero ∧ one.sv.length ≤ (1 : ChanId).toNat ∧
    one.pw.length ≤ (1 : ChanId).toNat ∧ (0 : ChanId).toNat < one.sv.length ∧
    ((0 : SpeedCode).toNat < 1 ∧ 5 < (6 : SpeedCode).toNat) ∧ decode 0x1000000B = .ok (.regPw 11 0) ∧
    full.pw.length = full.cfg.capPw ∧ decode 0x1400000B = .ok (.regSv 11 0) ∧
    full.sv.length = full.cfg.capSv ∧ decode 0x1800000B = .ok (.regSw 11 0) ∧
    full.sw.length = full.cfg.capSw ∧ (board [] [] []).sv = [] := by decide

theorem witness_AcceptedCommandsGetExactlyOneResponse :
    (gives (runWord 0x60000000 one) (fun _ => true) = true ∧ wordReady 0x60000000 one = true) ∧
    (gives (runWord 0x60000000 moving) (fun _ => true) = true ∧ wordReady 0x60000000 moving = false) := by decide

theorem witness_HostMarkRecordsMisuseForEver :
    (gives (step ({ one with hostMark := true }.withFetchWord 32 0x50000000)) (fun t => t.hostMark) = true) ∧
    (one.hostMark = false ∧ gives (step (one.withFetchWord 32 0x00000000)) (fun t => t.hostMark) = true) := by
  decide

theorem witness_StepRunsThePresentedCommand :
    (one.withFetchWord 32 0x200000FF).cmd = some 0x200000FF ∧ decode 0x200000FF = .ok (.pwSet 0 255) ∧
    (one.withFetchWord 32 0x200000FF).rst = false ∧ (one.withFetchWord 32 0x200000FF).hwTick = false ∧
    decodeTableWord 32 0x60000000 = some (.pwWait 0) ∧ held (.pwWait 0) one = false := by decide

/-- A held command, with and without the tick that lifts the hold, and one that is ready. -/
theorem witness_HeldCommandWaitsForALogicTick :
    (cmdReady { moving with cmd := some 0x60000000 } = false ∧ moving.rst = false ∧ moving.hwTick = false) ∧
    gives (step { moving with cmd := some 0x60000000, hwTick := true, tickCount := 24 }) (fun t =>
      cmdReady t) = true ∧
    cmdReady { one with cmd := some 0x60000000 } = true := by decide

theorem witness_PresentedWordStaysUntilAnswered :
    gives (step { one with cmd := some 0x60000000 }) (fun t =>
      decide (t.cmd = none ∧ t.rsp = some 0)) = true ∧
    gives (step { moving with cmd := some 0x60000000, hwTick := true }) (fun t =>
      decide (t.cmd = some 0x60000000 ∧ t.rsp = none)) = true := by decide

theorem witness_CoincidentTickAndCommandFollowArb :
    (cmdReady { one with cmd := some 0x40000000, hwTick := true } = true ∧ one.rst = false ∧
      one.cfg.arb = .tickFirst) ∧
    gives (step { one with cmd := some 0x40000000, hwTick := true }) (fun t => cmdReady t) = true ∧
    gives (step { one with cfg := { cfgT with arb := .cmdFirst }, cmd := some 0x40000000, hwTick := true })
      (fun t => decide (t.cmd = none ∧ t.hwTick = true)) = true := by decide

theorem witness_SurroundingsOnlyChangeInputs :
    (one.rst = false ∧ one.hwTick = false ∧ one.cmd = none) ∧
    cmdReady { moving with cmd := some 0x60000000 } = false := by decide

theorem witness_ResetEmptiesTheBlock : ({ moving with rst := true } : State).rst = true := by decide

theorem witness_HeldCommandIsReexaminedAfterReset :
    gives (step { one with cmd := some 0x50000000, rst := true, hwTick := true }) (fun t =>
      decide (t.cmd = some 0x50000000)) = true ∧
    decode 0x60000000 = .ok (.pwWait 0) ∧ ConditionFalse (.pwWait 0) moving ∧
    decode 0x64000000 = .ok (.svWait 0) ∧ ConditionFalse (.svWait 0) moving ∧
    decode 0x84000000 = .ok (.svRest 0) ∧ ConditionFalse (.svRest 0) moving ∧
    decode 0x70000000 = .ok .pwWaitall ∧ ConditionFalse .pwWaitall moving ∧
    decode 0x74000000 = .ok .svWaitall ∧ ConditionFalse .svWaitall moving :=
  ⟨by decide, by decide, .inl ⟨0, ⟨4, 196, 200, 3⟩, rfl, rfl, by decide⟩,
   by decide, .inr (.inl ⟨0, ⟨10, 12, 10, 1, true⟩, .inl rfl, rfl, by decide⟩),
   by decide, .inr (.inl ⟨0, ⟨10, 12, 10, 1, true⟩, .inr rfl, rfl, by decide⟩),
   by decide, .inr (.inr (.inl ⟨rfl, by decide⟩)), by decide, .inr (.inr (.inr ⟨rfl, by decide⟩))⟩

/-- The ends of the speed range, both directions, and both sides of the clamp. -/
theorem witness_StepLaw :
    ((0 : SpeedCode).toNat ≤ 5 ∧ 1 ≤ (1 : SpeedCode).toNat ∧ (5 : SpeedCode).toNat ≤ 5) ∧
    (0 : Level).toNat < (255 : Level).toNat ∧ (0 : Level) ≠ 255 ∧
    2 ^ ((5 : SpeedCode).toNat - 1) ≤ gap 16 0 ∧ gap 15 0 < 2 ^ ((5 : SpeedCode).toNat - 1) := by decide

/-- A strobe beside an empty port, a held command and a ready one with ticks first; the divider just before
its last count, at it, and from reset. -/
theorem witness_OneLogicTickPerDivisorTicks :
    (moving.rst = false ∧ moving.cmd = none ∧ moving.cfg.arb = .tickFirst) ∧
    cmdReady { moving with cmd := some 0x60000000, hwTick := true } = false ∧
    cmdReady { moving with cmd := some 0x40000000, hwTick := true } = true ∧
    1 ≤ cfgT.tickDiv ∧ ({ one with tickCount := 24 } : State).tickCount = one.cfg.tickDiv - 1 ∧
    ({ one with tickCount := 23 } : State).tickCount < one.cfg.tickDiv - 1 ∧ one.tickCount < one.cfg.tickDiv ∧
    one.tickCount + 24 < one.cfg.tickDiv := by decide

theorem witness_invariant : one.Inv ∧ moving.Inv ∧ full.Inv ∧ (atCount 24 moving).Inv ∧
    (board [] [⟨10, 180, 180, 5, false⟩] []).Inv :=
  ⟨by decide, by decide, by decide, by decide, by decide⟩

/-- The invariant excludes a detached servo in motion, an angle beyond the range and a bad speed. -/
theorem test_invariant_excludes :
    ¬ (board [] [⟨10, 12, 10, 1, false⟩] []).Inv ∧ ¬ (board [] [⟨10, 181, 181, 1, true⟩] []).Inv ∧
    ¬ (board [] [⟨10, 90, 90, 0, true⟩] []).Inv ∧ ¬ (board [⟨9, 0, 1, 6⟩] [] []).Inv ∧
    ¬ (atCount 25 one).Inv :=
  ⟨by decide, by decide, by decide, by decide, by decide⟩

/-- A logic tick that answers, with a rising line (bit 2), a held one and an inactive one. -/
theorem witness_LogicTick :
    (moving.Inv ∧ (4 : Lines).getLsbD 2 = true ∧ (0 : Lines).getLsbD 2 = false) ∧
    gives (logicTick { moving with lines := 4 }) (fun t => decide (t.trace = [.svWrite 10 11, .pwWrite 4 200])) = true ∧
    ((board [] [] []).pw = [] ∧ (board [] [] []).sv = [] ∧ (board [] [] []).sw = []) := by decide

theorem witness_DetachedServoIsLeftAlone :
    (board [] [⟨10, 90, 90, 2, false⟩] []).Inv ∧
    gives (tickMove { board [] [⟨10, 90, 90, 2, false⟩] [] with tickCount := 24 }) (fun _ => true) = true := by decide

theorem witness_SwitchQueryOnlyTurnsTrue :
    one.sw[(0 : ChanId).toNat]? = some ⟨2, true, 1025⟩ ∧ ((1125 : Time) - 1025).toNat + (50 : Time).toNat < 2 ^ 32 ∧
    gives (exec (.swActive 0 100) { one with now := 1125 }) (fun t => decide (t.rsp = some 1#32)) = true := by decide

/-- R159's example: a ramp of 50 from tick_count 10 settles by the hardware tick (25 - 10) + 49 * 25. -/
theorem witness_ChannelSettlesInTheCountedHardwareTick :
    (atCount 10 (board [⟨9, 0, 200, 3⟩] [⟨10, 90, 10, 1, true⟩] [])).Inv ∧
    countPw 0 200 3 = 50 ∧ countSv 90 10 1 = 80 ∧ (25 - 10) + (50 - 1) * 25 = 1240 := by decide

/-- A step of each agent, for the statements about every step. -/
theorem witness_steps :
    gives (step { moving with hwTick := true, tickCount := 24 }) (fun t => decide (t.pw ≠ moving.pw)) = true ∧
    gives (step (one.withFetchWord 32 0x1000000B)) (fun t => decide (t.pw.length = 2)) = true ∧
    gives (step { one with env := [⟨false, true, none, 0, 5⟩] }) (fun t => t.hwTick) = true ∧
    gives (step { one with rst := true }) (fun t => decide (t.pw = [])) = true := by decide

/-- A command and a tick that answer, for the writers' statement and the settled channels'. -/
theorem witness_EachFieldHasASingleWriter_SettledChannelsStaySettled :
    gives (tickMove { moving with tickCount := 24 }) (fun t => decide (t.pw.length = 1)) = true ∧
    gives (exec (.pwFade 0 60 5) one) (fun t => decide (t.pw = [⟨9, 50, 60, 5⟩])) = true ∧
    gives (step { one with hwTick := true, tickCount := 24 }) (fun t => decide (t.pw = one.pw ∧ t.sv = one.sv)) = true := by
  decide

theorem witness_DetachOnlyByRestAndOnlySettled :
    gives (step (one.withFetchWord 32 0x84000000)) (fun t =>
      decide (t.sv = [⟨10, 90, 90, 2, false⟩])) = true ∧ (one.withFetchWord 32 0x84000000).rst = false := by decide

theorem witness_FadedChannelNeverSnapsAgain :
    gives (step (one.withFetchWord 32 0x20000000)) (fun t => decide (t.pw = [⟨9, 50, 0, 2⟩])) = true ∧
    gives (exec (.pwFade 0 0 5) (board [⟨9, 50, 50, 0⟩] [] [])) (fun t =>
      decide (t.rsp = some 0 ∧ t.pw = [⟨9, 50, 0, 5⟩])) = true := by decide

/-- The legal parameters at the ends of their ranges. -/
theorem witness_ResetStateMeetsTheInvariant :
    Config.Legal ⟨1, 1, 1, 1, 90, 0, 1, false, .cmdFirst⟩ ∧
    Config.Legal ⟨16, 16, 16, 1000, 255, 5, 5, true, .tickFirst⟩ := by decide

/-- Where a tick stops: outside the step law's domain, and without a divisor. -/
theorem test_stops :
    gives (logicTick (board [⟨9, 0, 1, 6⟩] [] [])) (fun _ => true) = false ∧
    gives (logicTick (board [] [⟨10, 0, 1, 0, true⟩] [])) (fun _ => true) = false ∧
    gives (hwTickOp { one with cfg := { cfgT with tickDiv := 0 } }) (fun _ => true) = false := by decide

end Sys2Proof.Tests
end

