-- ==== Sys2Proof/Proofs/Scope.lean ====
section
/-! PROOFS. The scope's statements (00_scope): the surroundings' move. -/

namespace Sys2Proof.Machine

/-- The surroundings' move takes one input, the next listed one or, when none is listed, the free one
(log 6), counts it off, and presents it. -/
theorem environmentMove_presents (s : State) : ∃ (i : EnvInput) (rest : List EnvInput) (n : Nat),
    environmentMove s = present i { s with env := rest, freeCount := n } ∧
    ((s.env = i :: rest ∧ n = s.freeCount) ∨
     (s.env = [] ∧ rest = [] ∧ i = Config.freeInput s.freeCount ∧ n = s.freeCount + 1)) := by
  obtain he | ⟨i, rest, he⟩ : s.env = [] ∨ ∃ i rest, s.env = i :: rest := by
    cases s.env <;> simp
  · exact ⟨Config.freeInput s.freeCount, [], s.freeCount + 1, by simp [environmentMove, present, he],
      .inr ⟨he, rfl, rfl, rfl⟩⟩
  · exact ⟨i, rest, s.freeCount, by simp [environmentMove, he], .inl ⟨he, rfl⟩⟩

/-- Settles O26: the step is the surroundings' move, which presents one input and leaves the block. -/
theorem surroundingsOnlyChangeInputs : Obligations.SurroundingsOnlyChangeInputs := by
  intro s hrst htick hcmd
  have hstep := step_of_environment hrst htick (acceptable_none.mpr hcmd)
  obtain ⟨hcfg, hpw, hsv, hsw, hcount, htrace, hmark, hrsp⟩ := environmentMove_block s
  obtain ⟨i, rest, n, hpresent, hinput⟩ := environmentMove_presents s
  refine ⟨environmentMove s, i, hstep, ⟨hcfg, hpw, hsv, hsw, hcount, htrace⟩, hmark, hrsp, ?input,
    ?now, ?lines, ?hwTick, ?rst, fun w => environmentMove_cmd, ?newWord⟩
  case newWord => intro hnone; simp [hpresent, hnone]
  all_goals simp [hpresent, hinput]

end Sys2Proof.Machine
end

section
/-! PROOFS. The state's statements (10_state): what one transition without a reset does to the block, said
once table by table (`BlockStep`), and what follows from it for every step and every run; the ports; the
switch latch over a list of samples; the reset. -/

namespace Sys2Proof.Machine

open Sys2Proof.Claims

/-! ### One table in one transition -/

/-- What a transition does to a table of `cap` slots: a slot changes only as `R` allows and none is lost, a
new slot is one that `New` allows, and the table does not outgrow its capacity. -/
structure TableStep {α : Type} (R : α → α → Prop) (New : α → Prop) (cap : Nat) (l l' : List α) :
    Prop where
  kept : ∀ (j : Nat) (p : α), l[j]? = some p → ∃ q, l'[j]? = some q ∧ R p q
  origin : ∀ q ∈ l', (∃ p ∈ l, R p q) ∨ New q
  le_cap : l.length ≤ cap → l'.length ≤ cap

section TableStep

variable {α : Type} {R : α → α → Prop} {New : α → Prop} {cap : Nat} {l l' : List α}

theorem TableStep.of_pointwise (hlen : l'.length = l.length)
    (h : ∀ (j : Nat) (q : α), l'[j]? = some q → ∃ p, l[j]? = some p ∧ R p q) :
    TableStep R New cap l l' where
  kept j p hp := by
    obtain ⟨hj, _⟩ := List.getElem?_eq_some_iff.mp hp
    have hq : l'[j]? = some l'[j] := List.getElem?_eq_getElem (hlen ▸ hj)
    obtain ⟨p', hp', hR⟩ := h j _ hq
    cases hp.symm.trans hp'
    exact ⟨_, hq, hR⟩
  origin q hq := by
    obtain ⟨j, hj⟩ := List.getElem?_of_mem hq
    obtain ⟨p, hp, hR⟩ := h j q hj
    exact .inl ⟨p, List.mem_of_getElem? hp, hR⟩
  le_cap := by omega

theorem TableStep.refl (hR : ∀ p, R p p) (l : List α) : TableStep R New cap l l :=
  .of_pointwise rfl fun _ q hq => ⟨q, hq, hR q⟩

theorem TableStep.set {j : Nat} {p q : α} (hR : ∀ p, R p p) (hp : l[j]? = some p) (hq : R p q) :
    TableStep R New cap l (l.set j q) :=
  .of_pointwise (by simp) fun k x hx => by
    rw [List.getElem?_set] at hx
    split at hx
    · next hjk =>
      split at hx
      · cases hx; exact ⟨p, hjk ▸ hp, hq⟩
      · cases hx
    · exact ⟨x, hx, hR x⟩

theorem TableStep.append {a : α} (hR : ∀ p, R p p) (hnew : New a) (hlt : l.length < cap) :
    TableStep R New cap l (l ++ [a]) where
  kept j p hp := by
    obtain ⟨hj, _⟩ := List.getElem?_eq_some_iff.mp hp
    exact ⟨p, (List.getElem?_append_left hj).trans hp, hR p⟩
  origin q hq := by
    rcases List.mem_append.mp hq with hq | hq
    · exact .inl ⟨q, hq, hR q⟩
    · exact .inr (List.mem_singleton.mp hq ▸ hnew)
  le_cap _ := by simpa using hlt

theorem TableStep.length_le (h : TableStep R New cap l l') : l.length ≤ l'.length := by
  by_contra hlt
  obtain ⟨q, hq, _⟩ := h.kept l'.length _ (List.getElem?_eq_getElem (by omega))
  simp at hq

/-- A slot predicate that new slots have and changes keep holds of the whole table afterwards. -/
theorem TableStep.forall_mem {P : α → Prop} (h : TableStep R New cap l l') (hP : ∀ p ∈ l, P p)
    (hkeep : ∀ p q, R p q → P p → P q) (hnew : ∀ q, New q → P q) : ∀ q ∈ l', P q := by
  intro q hq
  rcases h.origin q hq with ⟨p, hp, hR⟩ | hq
  · exact hkeep p q hR (hP p hp)
  · exact hnew q hq

end TableStep

/-! ### One slot in one transition -/

/-- What a transition without a reset can do to a pulse-width slot (R69). -/
inductive PwSlotStep (p : PwSlot) : PwSlot → Prop
  | same : PwSlotStep p p
  | retarget (v : Level) : PwSlotStep p { p with target := v }
  | fade (v : Level) (speed : SpeedCode) (hs : speedLegal speed = true) :
      PwSlotStep p { p with target := v, speed := speed }
  | update {q : PwSlot} {e : List Event} (h : updatePw p = some (q, e)) : PwSlotStep p q

/-- What a transition without a reset can do to a servo slot (R69). -/
inductive SvSlotStep (cfg : Config) (p : SvSlot) : SvSlot → Prop
  | same : SvSlotStep cfg p p
  | move (a : Angle) (ha : angleLegal cfg a = true) :
      SvSlotStep cfg p { p with attached := true, targetAngle := a }
  | moveAt (a : Angle) (speed : SpeedCode) (ha : angleLegal cfg a = true) (hs : speedLegal speed = true) :
      SvSlotStep cfg p { p with attached := true, targetAngle := a, speed := speed }
  | rest (h : settledSv p = true) : SvSlotStep cfg p { p with attached := false }
  | update {q : SvSlot} {e : List Event} (h : updateSv p = some (q, e)) : SvSlotStep cfg p q

/-- What a transition without a reset can do to a switch slot (R69). -/
inductive SwSlotStep (p : SwSlot) : SwSlot → Prop
  | same : SwSlotStep p p
  | latch (lines : Lines) (t : Time) : SwSlotStep p (latchSw lines t p)

theorem updatePw_settled {p q : PwSlot} {e : List Event} (h : updatePw p = some (q, e))
    (hs : settledPw p = true) : q = p := by
  rw [updatePw, if_pos hs] at h; cases h; rfl

theorem updateSv_settled {p q : SvSlot} {e : List Event} (h : updateSv p = some (q, e))
    (hs : settledSv p = true) : q = p := by
  rw [updateSv, if_pos hs] at h; cases h; rfl

theorem PwSlotStep.pin_eq {p q : PwSlot} (h : PwSlotStep p q) : q.pin = p.pin := by
  cases h with
  | update hu => obtain ⟨_, _, rfl, _⟩ := updatePw_cases hu; rfl
  | _ => rfl

theorem SvSlotStep.pin_eq {cfg : Config} {p q : SvSlot} (h : SvSlotStep cfg p q) : q.pin = p.pin := by
  cases h with
  | update hu => obtain ⟨_, _, rfl, _⟩ := updateSv_cases hu; rfl
  | _ => rfl

theorem SwSlotStep.pin_eq {p q : SwSlot} (h : SwSlotStep p q) : q.pin = p.pin := by
  cases h with
  | same => rfl
  | latch lines t => exact latchSw_pin lines t p

/-- A settled pulse-width slot is unsettled only by a new target (R42). -/
theorem PwSlotStep.settled {p q : PwSlot} (h : PwSlotStep p q) (hs : p.current = p.target)
    (ht : q.target = p.target) : q.current = q.target := by
  cases h with
  | update hu => rwa [updatePw_settled hu ((settledPw_iff p).mpr hs)]
  | _ => exact hs.trans ht.symm

/-- A settled servo slot is unsettled only by a new target (R42). -/
theorem SvSlotStep.settled {cfg : Config} {p q : SvSlot} (h : SvSlotStep cfg p q)
    (hs : p.currentAngle = p.targetAngle) (ht : q.targetAngle = p.targetAngle) :
    q.currentAngle = q.targetAngle := by
  cases h with
  | update hu => rwa [updateSv_settled hu ((settledSv_iff p).mpr hs)]
  | _ => exact hs.trans ht.symm

/-- Every change of a pulse-width slot keeps its speed code in range (R41). -/
theorem PwSlotStep.ok {p q : PwSlot} (h : PwSlotStep p q) (hp : p.Ok) : q.Ok := by
  cases h with
  | same => exact hp
  | retarget v => exact hp
  | fade v speed hs => exact ((speedLegal_iff speed).mp hs).2
  | update hu => obtain ⟨_, _, rfl, _⟩ := updatePw_cases hu; exact hp

/-- Every change of a servo slot keeps its ranges, and detached implies settled (R41, R43). A move needs no
settled slot because it attaches; the tick's update leaves a detached slot alone because that is settled. -/
theorem SvSlotStep.ok {cfg : Config} {p q : SvSlot} (h : SvSlotStep cfg p q) (hp : p.Ok cfg) :
    q.Ok cfg := by
  obtain ⟨hspeed, hcur, htgt, hdet⟩ := hp
  cases h with
  | same => exact ⟨hspeed, hcur, htgt, hdet⟩
  | move a ha => exact ⟨hspeed, hcur, (angleLegal_iff cfg a).mp ha, nofun⟩
  | moveAt a speed ha hs =>
    exact ⟨(speedLegal_iff speed).mp hs, hcur, (angleLegal_iff cfg a).mp ha, nofun⟩
  | rest hs => exact ⟨hspeed, hcur, htgt, fun _ => (settledSv_iff p).mp hs⟩
  | update hu =>
    by_cases hs : p.currentAngle = p.targetAngle
    · rw [updateSv_settled hu ((settledSv_iff p).mpr hs)]
      exact ⟨hspeed, hcur, htgt, hdet⟩
    · obtain ⟨nxt, hnxt, rfl, _⟩ := updateSv_cases hu
      obtain ⟨nxt', hnxt', hmax⟩ := stepSv_some p.currentAngle p.targetAngle hspeed.1 hspeed.2
      cases hnxt.symm.trans hnxt'
      exact ⟨hspeed, hmax.trans (max_le hcur htgt), htgt, fun hd => absurd (hdet hd) hs⟩

/-- `SW.LATCH` leaves no timestamp behind when it unlatches (R44, R156). -/
theorem SwSlotStep.ok {p q : SwSlot} (h : SwSlotStep p q) (hp : p.Ok) : q.Ok := by
  cases h with
  | same => exact hp
  | latch lines t =>
    intro hq
    rw [latchSw_latched] at hq
    rw [latchSw_inactive hq]

theorem initialPw_ok {cfg : Config} (hc : cfg.Legal) (pin : Pin) : (initialPw cfg pin).Ok := by
  obtain ⟨_, _, _, _, _, hpw, _⟩ := hc
  exact hpw

theorem initialSv_ok {cfg : Config} (hc : cfg.Legal) (pin : Pin) : (initialSv cfg pin).Ok cfg := by
  obtain ⟨_, _, _, _, hmax, _, hsv⟩ := hc
  exact ⟨hsv, hmax, hmax, fun _ => rfl⟩

theorem initialSw_ok (pin : Pin) : (initialSw pin).Ok := fun _ => rfl

/-! ### The block in one transition -/

/-- Everything a transition without a reset can do to the block: the parameters stay (R31), the tables
change slot by slot and grow by registration, the divider counts on or starts again, and the trace grows at
its end (R39). -/
structure BlockStep (s t : State) : Prop where
  cfg : t.cfg = s.cfg
  pw : TableStep PwSlotStep (fun q => ∃ pin, q = initialPw s.cfg pin) s.cfg.capPw s.pw t.pw
  sv : TableStep (SvSlotStep s.cfg) (fun q => ∃ pin, q = initialSv s.cfg pin) s.cfg.capSv s.sv t.sv
  sw : TableStep SwSlotStep (fun q => ∃ pin, q = initialSw pin) s.cfg.capSw s.sw t.sw
  tickCount : t.tickCount = s.tickCount ∨ t.tickCount = 0 ∨
    (s.tickCount ≠ s.cfg.tickDiv - 1 ∧ t.tickCount = s.tickCount + 1)
  trace : ∃ events, t.trace = s.trace ++ events

theorem BlockStep.of_blockSame {s t : State} (h : BlockSame s t) : BlockStep s t := by
  obtain ⟨hcfg, hpw, hsv, hsw, hcount, htrace⟩ := h
  refine ⟨hcfg, ?_, ?_, ?_, .inl hcount, [], by simpa using htrace⟩
  · exact hpw ▸ .refl (fun _ => .same) _
  · exact hsv ▸ .refl (fun _ => .same) _
  · exact hsw ▸ .refl (fun _ => .same) _

theorem BlockStep.refl (s : State) : BlockStep s s := .of_blockSame ⟨rfl, rfl, rfl, rfl, rfl, rfl⟩

/-- The re-attach emits at most its one event. -/
theorem emitAttach_trace_append (p : SvSlot) (s : State) :
    ∃ events, (emitAttach p s).trace = s.trace ++ events := by
  rw [emitAttach_trace]; split
  · exact ⟨[], by simp⟩
  · exact ⟨[.svAttach p.pin], rfl⟩

/-- A servo command's write to one slot, with the re-attach's event before it. -/
theorem blockStep_writeSv_emitAttach {ch : ChanId} {s : State} {p q : SvSlot} (hp : s.sv[ch.toNat]? = some p)
    (hq : SvSlotStep s.cfg p q) (st : Status) (data : BitVec 8) :
    BlockStep s (respond st data (writeSv ch q (emitAttach p s))) where
  cfg := by simp
  pw := by simpa using (BlockStep.refl s).pw
  sv := by simpa using .set (fun _ => .same) hp hq
  sw := by simpa using (BlockStep.refl s).sw
  tickCount := by simp
  trace := by simpa using emitAttach_trace_append p s

/-- No command does anything else to the block. -/
theorem exec_blockStep {i : Instr} {s t : State} (h : exec i s = .next t) : BlockStep s t := by
  rcases exec_cases h with ⟨st, _, rfl⟩ | ⟨_, rfl⟩ | ⟨d, rfl⟩ | ⟨pin, aux, _, hlt, rfl⟩ |
    ⟨pin, aux, _, hlt, rfl⟩ | ⟨pin, aux, _, hlt, rfl⟩ | ⟨ch, v, p, _, hp, rfl⟩ |
    ⟨ch, v, speed, p, _, hp, hs, rfl⟩ | ⟨ch, a, p, _, hp, ha, rfl⟩ |
    ⟨ch, a, speed, p, _, hp, hs, ha, rfl⟩ | ⟨ch, p, _, hp, hs, _, rfl⟩
  case inl | inr.inl | inr.inr.inl => exact { BlockStep.refl s with }
  · exact { BlockStep.refl s with
      pw := .append (fun _ => .same) ⟨pin, rfl⟩ hlt
      trace := ⟨_, rfl⟩ }
  · have hsv : TableStep (SvSlotStep s.cfg) (fun q => ∃ pin, q = initialSv s.cfg pin) s.cfg.capSv s.sv
        (s.sv ++ [initialSv s.cfg pin]) := .append (fun _ => .same) ⟨pin, rfl⟩ hlt
    split
    · exact { BlockStep.refl s with sv := hsv, trace := ⟨_, List.append_assoc ..⟩ }
    · exact { BlockStep.refl s with sv := hsv, trace := ⟨_, rfl⟩ }
  · exact { BlockStep.refl s with
      sw := .append (fun _ => .same) ⟨pin, rfl⟩ hlt
      trace := ⟨_, rfl⟩ }
  · exact { BlockStep.refl s with pw := .set (fun _ => .same) hp (.retarget v) }
  · exact { BlockStep.refl s with pw := .set (fun _ => .same) hp (.fade v speed hs) }
  · exact blockStep_writeSv_emitAttach hp (.move a ha) _ _
  · exact blockStep_writeSv_emitAttach hp (.moveAt a speed ha hs) _ _
  · exact { BlockStep.refl s with
      sv := .set (fun _ => .same) hp (.rest hs)
      trace := ⟨_, rfl⟩ }

/-- A hardware tick counts on, or runs the three phases and starts the count again. -/
theorem tickMove_blockStep {s t : State} (h : tickMove s = .next t) : BlockStep s t := by
  rcases (tickMove_cases h).2 with ⟨hcount, rfl⟩ | ⟨_, sv', e1, pw', e2, hsv, hpw, rfl⟩
  · exact { BlockStep.refl s with tickCount := .inr (.inr ⟨hcount, rfl⟩) }
  · refine { BlockStep.refl s with
      pw := .of_pointwise (scanPw_length hpw) fun j q hq => ?_
      sv := .of_pointwise (scanSv_length hsv) fun j q hq => ?_
      sw := .of_pointwise (by simp) fun j q hq => ?_
      tickCount := .inr (.inl rfl)
      trace := ⟨e1 ++ e2, List.append_assoc ..⟩ }
    · obtain ⟨p, e, hp, hu⟩ := (scanPw_getElem? hpw j).2 q hq
      exact ⟨p, hp, .update hu⟩
    · obtain ⟨p, e, hp, hu⟩ := (scanSv_getElem? hsv j).2 q hq
      exact ⟨p, hp, .update hu⟩
    · rw [List.getElem?_map, Option.map_eq_some_iff] at hq
      obtain ⟨p, hp, rfl⟩ := hq
      exact ⟨p, hp, .latch s.lines s.now⟩

/-- Every step without a reset is such a transition of the block. -/
theorem step_blockStep {s t : State} (h : step s = .next t) (hrst : s.rst = false) : BlockStep s t := by
  rcases step_cases h with ⟨hr, _⟩ | ⟨_, _, _, htick⟩ | ⟨w, _, _, _, _, hrun⟩ | ⟨_, _, _, rfl⟩
  · rw [hrst] at hr; cases hr
  · exact tickMove_blockStep htick
  · rcases runWord_cases hrun with ⟨i, _, hexec⟩ | ⟨_, rfl⟩
    · exact exec_blockStep hexec
    · exact { BlockStep.refl s with }
  · obtain ⟨hcfg, hpw, hsv, hsw, hcount, htrace, _, _⟩ := environmentMove_block s
    exact .of_blockSame ⟨hcfg, hpw, hsv, hsw, hcount, htrace⟩

/-! ### What every step keeps -/

/-- Settles O46: a reset leaves the parameters, every other step is a `BlockStep`. -/
theorem noTransitionWritesAParameter : Obligations.NoTransitionWritesAParameter := by
  intro s t h
  cases hr : s.rst with
  | true => rw [step_of_reset hr] at h; cases h; rfl
  | false => exact (step_blockStep h hr).cfg

/-- Settles O45, table by table. -/
theorem registryOnlyGrows : Obligations.RegistryOnlyGrows := by
  intro s t h hr
  have hb := step_blockStep h hr
  refine ⟨⟨fun j p hp => ?_, fun j p hp => ?_, fun j p hp => ?_⟩, hb.pw.length_le, hb.sv.length_le,
    hb.sw.length_le, hb.trace⟩
  · exact (hb.pw.kept j p hp).imp fun _ ⟨hq, hR⟩ => ⟨hq, hR.pin_eq⟩
  · exact (hb.sv.kept j p hp).imp fun _ ⟨hq, hR⟩ => ⟨hq, hR.pin_eq⟩
  · exact (hb.sw.kept j p hp).imp fun _ ⟨hq, hR⟩ => ⟨hq, hR.pin_eq⟩

/-- Settles O47, slot by slot. -/
theorem settledChannelsStaySettled : Obligations.SettledChannelsStaySettled := by
  intro s t h hr
  have hb := step_blockStep h hr
  constructor
  · intro j p q hp hq
    obtain ⟨q', hq', hR⟩ := hb.pw.kept j p hp
    cases hq.symm.trans hq'
    exact hR.settled
  · intro j p q hp hq
    obtain ⟨q', hq', hR⟩ := hb.sv.kept j p hp
    cases hq.symm.trans hq'
    exact hR.settled

/-! ### The invariant -/

theorem BlockStep.inv {s t : State} (h : BlockStep s t) (hs : s.Inv) : t.Inv := by
  obtain ⟨hlegal, ⟨hcapPw, hcapSv, hcapSw⟩, hcount, hpw, hsv, hsw⟩ := hs
  have hcount' : t.tickCount < s.cfg.tickDiv := by have := h.tickCount; omega
  simp only [State.Inv, h.cfg]
  refine ⟨hlegal, ⟨h.pw.le_cap hcapPw, h.sv.le_cap hcapSv, h.sw.le_cap hcapSw⟩, hcount', ?_, ?_, ?_⟩
  · exact h.pw.forall_mem hpw (fun _ _ hR => hR.ok) fun _ ⟨pin, hq⟩ => hq ▸ initialPw_ok hlegal pin
  · exact h.sv.forall_mem hsv (fun _ _ hR => hR.ok) fun _ ⟨pin, hq⟩ => hq ▸ initialSv_ok hlegal pin
  · exact h.sw.forall_mem hsw (fun _ _ hR => hR.ok) fun _ ⟨pin, hq⟩ => hq ▸ initialSw_ok pin

theorem tickDiv_pos {c : Config} (hc : c.Legal) : 1 ≤ c.tickDiv := by
  obtain ⟨_, _, _, hdiv, _⟩ := hc
  exact hdiv

/-- A block with empty tables and the divider at 0 meets the invariant. -/
theorem inv_of_empty {s : State} (hc : s.cfg.Legal) (hpw : s.pw = []) (hsv : s.sv = []) (hsw : s.sw = [])
    (hcount : s.tickCount = 0) : s.Inv := by
  have hdiv := tickDiv_pos hc
  refine ⟨hc, ?_, by omega, ?_⟩ <;> simp [hpw, hsv, hsw]

/-- Settles O51: a reset empties the tables, every other step is a `BlockStep`. -/
theorem everyStepKeepsTheInvariant : Obligations.EveryStepKeepsTheInvariant := by
  intro s t hs h
  cases hr : s.rst with
  | true =>
    rw [step_of_reset hr] at h; cases h
    exact inv_of_empty hs.1 rfl rfl rfl rfl
  | false => exact (step_blockStep h hr).inv hs

theorem config_default_legal : Config.default.Legal := by
  have hspeed : ∀ v : Fin 5, 1 ≤ (BitVec.ofNat 3 (1 + v.val)).toNat ∧
      (BitVec.ofNat 3 (1 + v.val)).toNat ≤ 5 := by decide
  exact ⟨by decide, by decide, by decide, by decide, by decide, by decide, hspeed Config.openSvSpeed⟩

theorem reset_inv {c : Config} (hc : c.Legal) (inputs : List EnvInput) :
    State.Inv { State.reset with cfg := c, env := inputs } :=
  inv_of_empty hc rfl rfl rfl rfl

/-- Settles O50: the tables are empty and the divider is at 0. -/
theorem resetStateMeetsTheInvariant : Obligations.ResetStateMeetsTheInvariant :=
  ⟨reset_inv config_default_legal [], fun _ hc => reset_inv hc []⟩

/-! ### No step stops under the invariant -/

/-- Every command answers a next state: whatever its checks find, each of its branches ends in one. -/
theorem exec_answers (i : Instr) (s : State) : ∃ t, exec i s = .next t := by
  cases i
  all_goals
    simp only [exec, execRegPw, execRegSv, execRegSw, execPwSet, execSvMove, execPwFade, execSvMoves,
      execPwSettled, execSvSettled, execPwAllset, execSvAllset, execPwWait, execSvWait, execPwWaitall,
      execSvWaitall, execSvRest, execSwActive]
    repeat' split
    all_goals exact ⟨_, rfl⟩

theorem runWord_answers (w : Word) (s : State) : ∃ t, runWord w s = .next t := by
  unfold runWord
  cases decode w with
  | ok i => exact exec_answers i s
  | error _ => exact ⟨_, rfl⟩

/-- With every slot's speed in range the step law is defined, so a logic tick answers (R142). -/
theorem logicTick_answers {s : State} (hpw : ∀ p ∈ s.pw, PwSlot.Ok p)
    (hsv : ∀ p ∈ s.sv, SvSlot.Ok s.cfg p) :
    ∃ t, logicTick s = .next t := by
  obtain ⟨⟨pw', e2⟩, hpw'⟩ : ∃ r, scanPw s.pw = some r := scanPw_isSome fun p hp => by
    obtain ⟨nxt, hnxt⟩ := stepPw_some p.current p.target (hpw p hp)
    exact updatePw_of_step hnxt
  obtain ⟨⟨sv', e1⟩, hsv'⟩ : ∃ r, scanSv s.sv = some r := scanSv_isSome fun p hp => by
    obtain ⟨⟨h1, h5⟩, _⟩ := hsv p hp
    obtain ⟨nxt, hnxt, _⟩ := stepSv_some p.currentAngle p.targetAngle h1 h5
    exact updateSv_of_step hnxt
  exact ⟨_, logicTick_of_scans hsv' hpw'⟩

theorem tickMove_answers {s : State} (hs : s.Inv) : ∃ t, tickMove s = .next t := by
  obtain ⟨hlegal, _, _, hpw, hsv, _⟩ := hs
  have hdiv := tickDiv_pos hlegal
  unfold tickMove hwTickOp
  rw [if_neg (Nat.ne_of_gt hdiv)]
  split
  · exact logicTick_answers hpw hsv
  · exact ⟨_, rfl⟩

theorem step_answers {s : State} (hs : s.Inv) : ∃ t, step s = .next t := by
  unfold step
  split
  · exact ⟨_, rfl⟩
  · exact tickMove_answers hs
  · exact runWord_answers _ s
  · exact ⟨_, rfl⟩

/-! ### Runs -/

theorem run_succ_of_step {s t : State} (h : step s = .next t) (k : Nat) :
    Host.Core.run Sys2Proof.core (k + 1) s = Host.Core.run Sys2Proof.core k t := by
  have hcore : Sys2Proof.core.step s = .next t := h
  simp only [Host.Core.run, hcore]

/-- A run from the invariant never stops and stays in it, by induction on its length. -/
theorem run_inv (k : Nat) {s : State} (hs : s.Inv) :
    ∃ t, Host.Core.run Sys2Proof.core k s = .next t ∧ State.Inv t := by
  induction k generalizing s with
  | zero => exact ⟨s, rfl, hs⟩
  | succ k ih =>
    obtain ⟨t, ht⟩ := step_answers hs
    obtain ⟨u, hu, hinv⟩ := ih (everyStepKeepsTheInvariant s t hs ht)
    exact ⟨u, (run_succ_of_step ht k).trans hu, hinv⟩

/-- Settles O54, a run from reset being a run from the invariant. -/
theorem runsNeverStopAndStayInvariant : Obligations.RunsNeverStopAndStayInvariant :=
  ⟨fun k _ hs => run_inv k hs, fun k _ inputs hc => run_inv k (reset_inv hc inputs)⟩

/-! ### The port -/

theorem tickMove_port {s t : State} (h : tickMove s = .next t) : t.cmd = s.cmd ∧ t.rsp = none := by
  rcases (tickMove_cases h).2 with ⟨_, rfl⟩ | ⟨_, _, _, _, _, _, _, rfl⟩ <;> exact ⟨rfl, rfl⟩

/-- A ready word that runs is answered and leaves the port (R34, R95). -/
theorem runWord_port {w : Word} {s t : State} (hw : wordReady w s = true) (h : runWord w s = .next t) :
    t.cmd = none ∧ ∃ r, t.rsp = some r := by
  rcases runWord_cases h with ⟨i, hi, hexec⟩ | ⟨_, rfl⟩
  · have hheld : held i s = false := by simpa [wordReady, hi] using hw
    obtain ⟨hcmd, _, _, hrsp⟩ := exec_of_not_held hheld hexec
    exact ⟨hcmd, _, hrsp⟩
  · exact ⟨rfl, _, rfl⟩

/-- What a step does at the ports: the word stays and there is no response, or a ready word is answered. -/
theorem step_port {s t : State} (h : step s = .next t) :
    (t.rsp = none ∧ ∀ w, s.cmd = some w → t.cmd = some w) ∨
    ((∃ w, s.cmd = some w ∧ wordReady w s = true) ∧ t.cmd = none ∧ ∃ r, t.rsp = some r) := by
  rcases step_cases h with ⟨_, rfl⟩ | ⟨_, _, _, htick⟩ | ⟨w, _, hcmd, hready, _, hrun⟩ | ⟨_, _, _, rfl⟩
  · exact .inl ⟨rfl, fun _ hw => hw⟩
  · obtain ⟨hcmd, hrsp⟩ := tickMove_port htick
    exact .inl ⟨hrsp, fun _ hw => hcmd.trans hw⟩
  · exact .inr ⟨⟨w, hcmd, hready⟩, runWord_port hready hrun⟩
  · obtain ⟨_, _, _, _, _, _, _, hrsp⟩ := environmentMove_block s
    exact .inl ⟨hrsp, fun _ => environmentMove_cmd⟩

/-- Settles O24, from the two things a step can do at the ports. -/
theorem presentedWordStaysUntilAnswered : Obligations.PresentedWordStaysUntilAnswered := by
  intro s t h
  rcases step_port h with ⟨hrsp, hstays⟩ | ⟨hready, hgone, hanswered⟩
  · exact ⟨fun w hw => .inl ⟨hstays w hw, hrsp⟩, fun r hr => by rw [hrsp] at hr; cases hr⟩
  · exact ⟨fun _ _ => .inr ⟨hgone, hanswered⟩, fun _ _ => hready⟩

/-! ### The switch latch over a list of samples -/

theorem latched_append_singleton (p : SwSlot) (samples : List (Lines × Time)) (x : Lines × Time) :
    latched p (samples ++ [x]) = latchSw x.1 x.2 (latched p samples) := by
  simp [latched]

@[simp] theorem latched_pin (p : SwSlot) (samples : List (Lines × Time)) :
    (latched p samples).pin = p.pin := by
  induction samples using List.reverseRecOn with
  | nil => rfl
  | append_singleton samples x ih => rw [latched_append_singleton, latchSw_pin, ih]

/-- The last sample decides the latch (R44, R156). -/
theorem latched_latched_iff (pin : Pin) (samples : List (Lines × Time)) :
    (latched ⟨pin, false, 0⟩ samples).latched = true ↔
      ∃ x, samples.getLast? = some x ∧ x.1.getLsbD pin.toNat = true := by
  induction samples using List.reverseRecOn with
  | nil => simp [latched]
  | append_singleton samples x _ => simp [latched_append_singleton]

/-- An unlatched slot holds timestamp 0 (R44). -/
theorem latched_ok (pin : Pin) (samples : List (Lines × Time)) :
    (latched ⟨pin, false, 0⟩ samples).Ok := by
  induction samples using List.reverseRecOn with
  | nil => exact fun _ => rfl
  | append_singleton samples x ih =>
    rw [latched_append_singleton]
    exact (SwSlotStep.latch x.1 x.2).ok ih

/-- `ts` is the clock of the first sample of the unbroken active run with which the list ends (R44). -/
def ActiveRunStartsAt (pin : Pin) (samples : List (Lines × Time)) (ts : Time) : Prop :=
  ∃ before first run, samples = before ++ first :: run ∧
    (∀ x ∈ first :: run, x.1.getLsbD pin.toNat = true) ∧
    (∀ x, before.getLast? = some x → x.1.getLsbD pin.toNat = false) ∧ ts = first.2

/-- One more active sample goes on with the run. -/
theorem ActiveRunStartsAt.append {pin : Pin} {samples : List (Lines × Time)} {ts : Time}
    (h : ActiveRunStartsAt pin samples ts) {x : Lines × Time} (hx : x.1.getLsbD pin.toNat = true) :
    ActiveRunStartsAt pin (samples ++ [x]) ts := by
  obtain ⟨before, first, run, rfl, hactive, hbefore, hts⟩ := h
  refine ⟨before, first, run ++ [x], by simp, ?_, hbefore, hts⟩
  rw [← List.cons_append]
  exact List.forall_mem_append.mpr ⟨hactive, by simpa using hx⟩

/-- An active sample after none or an inactive one begins a run. -/
theorem activeRunStartsAt_edge {pin : Pin} {samples : List (Lines × Time)} {x : Lines × Time}
    (hx : x.1.getLsbD pin.toNat = true)
    (hlast : ¬ ∃ y, samples.getLast? = some y ∧ y.1.getLsbD pin.toNat = true) :
    ActiveRunStartsAt pin (samples ++ [x]) x.2 :=
  ⟨samples, x, [], rfl, by simpa using hx,
    fun y hy => Bool.eq_false_of_not_eq_true fun hact => hlast ⟨y, hy, hact⟩, rfl⟩

/-- A latched slot holds the start of the run: the latch writes at the edge and keeps until the run ends. -/
theorem latched_pressTs_of_latched (pin : Pin) (samples : List (Lines × Time))
    (h : (latched ⟨pin, false, 0⟩ samples).latched = true) :
    ActiveRunStartsAt pin samples (latched ⟨pin, false, 0⟩ samples).pressTs := by
  induction samples using List.reverseRecOn with
  | nil => cases h
  | append_singleton samples x ih =>
    have hx : x.1.getLsbD pin.toNat = true := by simpa [latched_append_singleton] using h
    have hx' : x.1.getLsbD (latched ⟨pin, false, 0⟩ samples).pin.toNat = true := by simpa using hx
    rw [latched_append_singleton]
    cases hl : (latched ⟨pin, false, 0⟩ samples).latched with
    | true =>
      rw [latchSw_held hx' hl]
      exact (ih hl).append hx
    | false =>
      rw [latchSw_edge hx' hl]
      exact activeRunStartsAt_edge hx (by rw [← latched_latched_iff, hl]; exact Bool.false_ne_true)

/-- Settles O39, by induction on the samples from the last one. -/
theorem latchRecordsTheStartOfTheActiveRun : Obligations.LatchRecordsTheStartOfTheActiveRun := by
  intro pin samples
  exact ⟨latched_pin _ _, latched_latched_iff pin samples, latched_ok pin samples,
    latched_pressTs_of_latched pin samples⟩

/-! ### The presented command and the reset -/

/-- Whether a command is held is read from the two tables of channels that move (R190). -/
theorem held_congr {s t : State} (hpw : t.pw = s.pw) (hsv : t.sv = s.sv) (i : Instr) :
    held i t = held i s := by
  cases i <;> simp only [held, selectPw, selectSv, allsetPw, allsetSv, hpw, hsv]

/-- With no channel registered nothing is held. -/
theorem held_of_empty {s : State} (hpw : s.pw = []) (hsv : s.sv = []) (i : Instr) : held i s = false := by
  rw [held_congr (s := State.reset) hpw hsv]
  cases i <;> rfl

theorem cmdReady_of_empty {s : State} (hpw : s.pw = []) (hsv : s.sv = []) : cmdReady s = true := by
  unfold cmdReady wordReady
  split
  · rfl
  · split
    · simp [held_of_empty hpw hsv]
    · rfl

theorem step_of_decoded {s : State} {w : Word} {i : Instr} (hc : s.cmd = some w) (hd : decode w = .ok i)
    (hr : s.rst = false) (ha : s.hwTick = false ∨ s.cfg.arb = .cmdFirst) (hh : held i s = false) :
    step s = exec i s := by
  rw [step_of_command hr hc (by simp [wordReady, hd, hh]) ha]
  simp only [runWord, hd]

theorem decode_of_decodeTableWord {nbits v : Nat} {i : Instr} (h : decodeTableWord nbits v = some i) :
    decode (BitVec.ofNat 32 (v % 2 ^ nbits)) = .ok i := by
  unfold decodeTableWord at h
  split at h
  · cases h; assumption
  · cases h

theorem step_withFetchWord {s : State} {nbits v : Nat} {i : Instr} (h : decodeTableWord nbits v = some i)
    (hh : held i s = false) : step (s.withFetchWord nbits v) = exec i (s.withFetchWord nbits v) :=
  step_of_decoded rfl (decode_of_decodeTableWord h) rfl (.inl rfl)
    ((held_congr (s := s) rfl rfl i).trans hh)

/-- Settles O22: a ready word's step is `exec`, and after reset every word is ready. -/
theorem stepRunsThePresentedCommand : Obligations.StepRunsThePresentedCommand :=
  ⟨fun _ _ _ => step_of_decoded, fun _ _ _ _ => step_withFetchWord,
    fun _ _ i h => step_withFetchWord h (held_of_empty rfl rfl i)⟩

/-- Settles O27: the reset empties the tables, and with them empty nothing is driven or held. -/
theorem resetEmptiesTheBlock : Obligations.ResetEmptiesTheBlock :=
  ⟨⟨rfl, rfl, rfl, rfl, rfl, cmdReady_of_empty rfl rfl, rfl, rfl⟩, fun s hr =>
    ⟨resetMove s, step_of_reset hr, rfl, rfl, rfl, rfl, rfl, cmdReady_of_empty rfl rfl, rfl, rfl, rfl⟩⟩

end Sys2Proof.Machine
end

section
/-! PROOFS. The memory's statements (20_memory): the order of a logic tick's events, the switch query asked
again later, and which agent and which command write which field of a slot. -/

namespace Sys2Proof.Machine

open Sys2Proof.Claims

/-! ### The order of events -/

theorem updateSv_events {p p' : SvSlot} {e : List Event} (h : updateSv p = some (p', e)) :
    e = servoEvent p := by
  obtain ⟨nxt, hnxt, _, rfl⟩ := updateSv_cases h
  simp [servoEvent, hnxt]

theorem updatePw_events {p p' : PwSlot} {e : List Event} (h : updatePw p = some (p', e)) :
    e = levelEvent p := by
  obtain ⟨nxt, hnxt, _, rfl⟩ := updatePw_cases h
  simp [levelEvent, hnxt]

theorem scanSv_events {l l' : List SvSlot} {e : List Event} (h : scanSv l = some (l', e)) :
    e = l.flatMap servoEvent := by
  induction l generalizing l' e with
  | nil => cases h; rfl
  | cons p rest ih =>
    obtain ⟨_, _, _, _, hp, hrest, _, rfl⟩ := scanSv_cons h
    rw [List.flatMap_cons, updateSv_events hp, ih hrest]

theorem scanPw_events {l l' : List PwSlot} {e : List Event} (h : scanPw l = some (l', e)) :
    e = l.flatMap levelEvent := by
  induction l generalizing l' e with
  | nil => cases h; rfl
  | cons p rest ih =>
    obtain ⟨_, _, _, _, hp, hrest, _, rfl⟩ := scanPw_cons h
    rw [List.flatMap_cons, updatePw_events hp, ih hrest]

/-- Settles O36: each phase emits its slots' events in index order, the servo phase first. -/
theorem logicTickEventsFollowTableOrder : Obligations.LogicTickEventsFollowTableOrder := by
  intro s t h
  obtain ⟨_, _, _, _, hsv, hpw, rfl⟩ := logicTick_cases h
  simp only [scanSv_events hsv, scanPw_events hpw]

/-! ### The switch query asked again later -/

theorem exec_swActive_of_slot {ch : ChanId} {s : State} {p : SwSlot} (hp : s.sw[ch.toNat]? = some p)
    (hold : HoldMs) :
    exec (.swActive ch hold) s = .next (respond .ok (truthData (switchActive s.now hold p)) s) := by
  simp only [exec, execSwActive, selectSw_eq, hp]

theorem responseWord_truthData_eq_one_iff (b : Bool) : responseWord .ok (truthData b) = 1#32 ↔ b = true := by
  cases b <;> decide

theorem switchActive_iff (now : Time) (hold : HoldMs) (p : SwSlot) :
    switchActive now hold p = true ↔ p.latched = true ∧ hold.toNat ≤ (heldMs now p.pressTs).toNat := by
  simp [switchActive]

/-- While the clock's advance does not carry the hold past `2^32`, it is added to the hold (R200, R254). -/
theorem heldMs_add {now pressTs d : Time} (h : (heldMs now pressTs).toNat + d.toNat < 2 ^ 32) :
    (heldMs (now + d) pressTs).toNat = (heldMs now pressTs).toNat + d.toNat := by
  have hadd : heldMs (now + d) pressTs = heldMs now pressTs + d := add_sub_right_comm now d pressTs
  rw [hadd, BitVec.toNat_add_of_lt h]

/-- A hold long enough stays long enough, since the latch and its timestamp stay (R202). -/
theorem switchActive_add {now d : Time} {hold : HoldMs} {p : SwSlot}
    (hd : (heldMs now p.pressTs).toNat + d.toNat < 2 ^ 32) (h : switchActive now hold p = true) :
    switchActive (now + d) hold p = true := by
  rw [switchActive_iff] at h ⊢
  obtain ⟨hlatched, hlong⟩ := h
  rw [heldMs_add hd]
  exact ⟨hlatched, Nat.le_add_right_of_le hlong⟩

/-- Settles O40: the answer is 1 exactly when the query's condition holds, and that only turns true. -/
theorem switchQueryOnlyTurnsTrue : Obligations.SwitchQueryOnlyTurnsTrue := by
  intro s t ch hold p d hp hd h hrsp
  rw [exec_swActive_of_slot hp] at h
  cases h
  have hnow := (responseWord_truthData_eq_one_iff _).mp (Option.some.inj hrsp)
  have hlater := switchActive_add hd hnow
  refine ⟨_, exec_swActive_of_slot (s := { s with now := s.now + d }) hp hold, ?_⟩
  exact congrArg some ((responseWord_truthData_eq_one_iff _).mpr hlater)

/-! ### The writers of a table -/

/-- What a transition does to a table, slot by slot: the slot at `j` changes only as `R j` allows, none is
lost, and the table grows by at most one slot, which `Grow` must allow. -/
structure TableWrite {α : Type} (R : Nat → α → α → Prop) (Grow : Prop) (l l' : List α) : Prop where
  kept : ∀ (j : Nat) (p : α), l[j]? = some p → ∃ q, l'[j]? = some q ∧ R j p q
  length : l'.length = l.length ∨ (l'.length = l.length + 1 ∧ Grow)

section TableWrite

variable {α : Type} {R : Nat → α → α → Prop} {Grow : Prop} {l : List α}

theorem TableWrite.refl (hR : ∀ j p, R j p p) : TableWrite R Grow l l where
  kept j p hp := ⟨p, hp, hR j p⟩
  length := .inl rfl

theorem TableWrite.set {k : Nat} {p q : α} (hR : ∀ j p, R j p p) (hp : l[k]? = some p) (hq : R k p q) :
    TableWrite R Grow l (l.set k q) where
  kept j x hx := by
    obtain ⟨hj, _⟩ := List.getElem?_eq_some_iff.mp hx
    by_cases hkj : k = j
    · subst hkj
      cases hp.symm.trans hx
      exact ⟨q, List.getElem?_set_self hj, hq⟩
    · exact ⟨x, (List.getElem?_set_ne hkj).trans hx, hR j x⟩
  length := .inl List.length_set

theorem TableWrite.append {a : α} (hR : ∀ j p, R j p p) (hgrow : Grow) : TableWrite R Grow l (l ++ [a]) where
  kept j p hp := by
    obtain ⟨hj, _⟩ := List.getElem?_eq_some_iff.mp hp
    exact ⟨p, (List.getElem?_append_left hj).trans hp, hR j p⟩
  length := .inr ⟨by simp, hgrow⟩

/-- A table that nothing may make grow keeps its length. -/
theorem TableWrite.length_eq {l' : List α} (h : TableWrite R False l l') : l'.length = l.length :=
  h.length.resolve_right And.right

end TableWrite

/-! ### What a command writes -/

/-- What the command `i` can do to the pulse-width slot of channel `j` (R69). -/
inductive PwSlotWrite (i : Instr) (j : Nat) (p : PwSlot) : PwSlot → Prop
  | same : PwSlotWrite i j p p
  | set (ch : ChanId) (v : Level) (hj : ch.toNat = j) (hi : i = .pwSet ch v) :
      PwSlotWrite i j p { p with target := v }
  | fade (ch : ChanId) (v : Level) (speed : SpeedCode) (hj : ch.toNat = j) (hi : i = .pwFade ch v speed)
      (hs : speedLegal speed = true) :
      PwSlotWrite i j p { p with target := v, speed := speed }

/-- What the command `i` can do to the servo slot of channel `j` (R69). -/
inductive SvSlotWrite (i : Instr) (j : Nat) (p : SvSlot) : SvSlot → Prop
  | same : SvSlotWrite i j p p
  | move (ch : ChanId) (a : Angle) (hj : ch.toNat = j) (hi : i = .svMove ch a) :
      SvSlotWrite i j p { p with attached := true, targetAngle := a }
  | moveAt (ch : ChanId) (a : Angle) (speed : SpeedCode) (hj : ch.toNat = j) (hi : i = .svMoves ch a speed) :
      SvSlotWrite i j p { p with attached := true, targetAngle := a, speed := speed }
  | rest (ch : ChanId) (hj : ch.toNat = j) (hi : i = .svRest ch) (hs : settledSv p = true) :
      SvSlotWrite i j p { p with attached := false }

/-- Everything the command `i` writes of the divider and the three tables (R69). -/
structure CommandWrite (i : Instr) (s t : State) : Prop where
  tickCount : t.tickCount = s.tickCount
  pw : TableWrite (PwSlotWrite i) (∃ pin aux, i = .regPw pin aux) s.pw t.pw
  sv : TableWrite (SvSlotWrite i) (∃ pin aux, i = .regSv pin aux) s.sv t.sv
  sw : TableWrite (fun _ p q => q = p) (∃ pin aux, i = .regSw pin aux) s.sw t.sw

theorem CommandWrite.refl (i : Instr) (s : State) : CommandWrite i s s :=
  ⟨rfl, .refl fun _ _ => .same, .refl fun _ _ => .same, .refl fun _ _ => rfl⟩

/-- A servo command's write to one slot; the re-attach's event before it writes no table. -/
theorem commandWrite_writeSv_emitAttach {i : Instr} {ch : ChanId} {s : State} {p q : SvSlot}
    (hp : s.sv[ch.toNat]? = some p) (hq : SvSlotWrite i ch.toNat p q) (st : Status) (data : BitVec 8) :
    CommandWrite i s (respond st data (writeSv ch q (emitAttach p s))) where
  tickCount := by simp
  pw := by simpa using (CommandWrite.refl i s).pw
  sv := by simpa using .set (fun _ _ => .same) hp hq
  sw := by simpa using (CommandWrite.refl i s).sw

/-- No command writes anything else of them: each case of `exec_cases` is one of the writes named above. -/
theorem exec_commandWrite {i : Instr} {s t : State} (h : exec i s = .next t) : CommandWrite i s t := by
  rcases exec_cases h with ⟨st, _, rfl⟩ | ⟨_, rfl⟩ | ⟨d, rfl⟩ | ⟨pin, aux, hi, _, rfl⟩ |
    ⟨pin, aux, hi, _, rfl⟩ | ⟨pin, aux, hi, _, rfl⟩ | ⟨ch, v, p, hi, hp, rfl⟩ |
    ⟨ch, v, speed, p, hi, hp, hs, rfl⟩ | ⟨ch, a, p, hi, hp, _, rfl⟩ |
    ⟨ch, a, speed, p, hi, hp, _, _, rfl⟩ | ⟨ch, p, hi, hp, hs, _, rfl⟩
  case inl | inr.inl | inr.inr.inl => exact { CommandWrite.refl i s with }
  · exact { CommandWrite.refl i s with pw := .append (fun _ _ => .same) ⟨pin, aux, hi⟩ }
  · split <;> exact { CommandWrite.refl i s with sv := .append (fun _ _ => .same) ⟨pin, aux, hi⟩ }
  · exact { CommandWrite.refl i s with sw := .append (fun _ _ => rfl) ⟨pin, aux, hi⟩ }
  · exact { CommandWrite.refl i s with pw := .set (fun _ _ => .same) hp (.set ch v rfl hi) }
  · exact { CommandWrite.refl i s with pw := .set (fun _ _ => .same) hp (.fade ch v speed rfl hi hs) }
  · exact commandWrite_writeSv_emitAttach hp (.move ch a rfl hi) _ _
  · exact commandWrite_writeSv_emitAttach hp (.moveAt ch a speed rfl hi) _ _
  · exact { CommandWrite.refl i s with sv := .set (fun _ _ => .same) hp (.rest ch rfl hi hs) }

/-- Field by field: a new target names a set or fade of the channel, a new speed a fade of it. -/
theorem PwSlotWrite.fields {i : Instr} {j : Nat} {p q : PwSlot} (h : PwSlotWrite i j p q) :
    ∃ tgt sp, q = { p with target := tgt, speed := sp } ∧
      (tgt ≠ p.target → ∃ (ch : ChanId) (v : Level), ch.toNat = j ∧
        (i = .pwSet ch v ∨ ∃ x, i = .pwFade ch v x)) ∧
      (sp ≠ p.speed → ∃ (ch : ChanId) (v : Level) (x : SpeedCode), ch.toNat = j ∧ i = .pwFade ch v x) := by
  cases h with
  | same => exact ⟨_, _, rfl, (absurd rfl ·), (absurd rfl ·)⟩
  | set ch v hj hi => exact ⟨_, _, rfl, fun _ => ⟨ch, v, hj, .inl hi⟩, (absurd rfl ·)⟩
  | fade ch v speed hj hi =>
    exact ⟨_, _, rfl, fun _ => ⟨ch, v, hj, .inr ⟨speed, hi⟩⟩, fun _ => ⟨ch, v, speed, hj, hi⟩⟩

/-- Field by field: a new target names a move of the channel, a new speed a move with a speed, a new attach
flag a move or a rest. -/
theorem SvSlotWrite.fields {i : Instr} {j : Nat} {p q : SvSlot} (h : SvSlotWrite i j p q) :
    ∃ tgt sp att, q = { p with targetAngle := tgt, speed := sp, attached := att } ∧
      (tgt ≠ p.targetAngle → ∃ (ch : ChanId) (a : Angle), ch.toNat = j ∧
        (i = .svMove ch a ∨ ∃ x, i = .svMoves ch a x)) ∧
      (sp ≠ p.speed → ∃ (ch : ChanId) (a : Angle) (x : SpeedCode), ch.toNat = j ∧ i = .svMoves ch a x) ∧
      (att ≠ p.attached → ∃ ch : ChanId, ch.toNat = j ∧
        (i = .svRest ch ∨ (∃ a, i = .svMove ch a) ∨ (∃ a x, i = .svMoves ch a x))) := by
  cases h with
  | same => exact ⟨_, _, _, rfl, (absurd rfl ·), (absurd rfl ·), (absurd rfl ·)⟩
  | move ch a hj hi =>
    exact ⟨_, _, _, rfl, fun _ => ⟨ch, a, hj, .inl hi⟩, (absurd rfl ·),
      fun _ => ⟨ch, hj, .inr (.inl ⟨a, hi⟩)⟩⟩
  | moveAt ch a speed hj hi =>
    exact ⟨_, _, _, rfl, fun _ => ⟨ch, a, hj, .inr ⟨speed, hi⟩⟩, fun _ => ⟨ch, a, speed, hj, hi⟩,
      fun _ => ⟨ch, hj, .inr (.inr ⟨a, speed, hi⟩)⟩⟩
  | rest ch hj hi =>
    exact ⟨_, _, _, rfl, (absurd rfl ·), (absurd rfl ·), fun _ => ⟨ch, hj, .inl hi⟩⟩

/-! ### What a hardware tick writes -/

/-- Everything a hardware tick writes of the three tables: no table grows, and of a slot only its current
value, or its latch and the latch's timestamp, are written (R69). -/
structure TickWrite (s t : State) : Prop where
  pw : TableWrite (fun _ p q => ∃ cur, q = { p with current := cur }) False s.pw t.pw
  sv : TableWrite (fun _ p q => ∃ cur, q = { p with currentAngle := cur }) False s.sv t.sv
  sw : TableWrite (fun _ p q => ∃ l ts, q = { p with latched := l, pressTs := ts }) False s.sw t.sw

theorem TickWrite.refl (s : State) : TickWrite s s :=
  ⟨.refl fun _ p => ⟨p.current, rfl⟩, .refl fun _ p => ⟨p.currentAngle, rfl⟩,
    .refl fun _ p => ⟨p.latched, p.pressTs, rfl⟩⟩

theorem latchSw_fields (lines : Lines) (t : Time) (p : SwSlot) :
    ∃ l ts, latchSw lines t p = { p with latched := l, pressTs := ts } :=
  ⟨(latchSw lines t p).latched, (latchSw lines t p).pressTs, congrArg (SwSlot.mk · _ _) (latchSw_pin lines t p)⟩

/-- A hardware tick counts on and writes no slot, or each of the three phases updates its table in place. -/
theorem tickMove_tickWrite {s t : State} (h : tickMove s = .next t) : TickWrite s t := by
  rcases (tickMove_cases h).2 with ⟨_, rfl⟩ | ⟨_, sv', _, pw', _, hsv, hpw, rfl⟩
  · exact { TickWrite.refl s with }
  · refine ⟨⟨fun j p hp => ?_, .inl (scanPw_length hpw)⟩, ⟨fun j p hp => ?_, .inl (scanSv_length hsv)⟩,
      ⟨fun j p hp => ?_, .inl (List.length_map ..)⟩⟩
    · obtain ⟨q, _, hu, hq⟩ := (scanPw_getElem? hpw j).1 p hp
      obtain ⟨nxt, _, hfields, _⟩ := updatePw_cases hu
      exact ⟨q, hq, nxt, hfields⟩
    · obtain ⟨q, _, hu, hq⟩ := (scanSv_getElem? hsv j).1 p hp
      obtain ⟨nxt, _, hfields, _⟩ := updateSv_cases hu
      exact ⟨q, hq, nxt, hfields⟩
    · exact ⟨latchSw s.lines s.now p, by simp [hp], latchSw_fields s.lines s.now p⟩

/-- Settles O43: the tick agent's half from `TickWrite`, the commands' half from `CommandWrite`. -/
theorem eachFieldHasASingleWriter : Obligations.EachFieldHasASingleWriter := by
  constructor
  · intro s t h
    obtain ⟨hpw, hsv, hsw⟩ := tickMove_tickWrite h
    refine ⟨hpw.length_eq, hsv.length_eq, hsw.length_eq, fun j p hp => ?_, fun j p hp => ?_, fun j p hp => ?_⟩
    · obtain ⟨_, hq, cur, rfl⟩ := hpw.kept j p hp
      exact ⟨cur, hq⟩
    · obtain ⟨_, hq, cur, rfl⟩ := hsv.kept j p hp
      exact ⟨cur, hq⟩
    · obtain ⟨_, hq, l, ts, rfl⟩ := hsw.kept j p hp
      exact ⟨l, ts, hq⟩
  · intro i s t h
    obtain ⟨hcount, hpw, hsv, hsw⟩ := exec_commandWrite h
    refine ⟨hcount, hpw.length, hsv.length, hsw.length, fun j p hp => ?_, fun j p hp => ?_, fun j p hp => ?_⟩
    · obtain ⟨q, hq, hw⟩ := hpw.kept j p hp
      obtain ⟨tgt, sp, rfl, htgt, hsp⟩ := hw.fields
      exact ⟨tgt, sp, hq, htgt, hsp⟩
    · obtain ⟨q, hq, hw⟩ := hsv.kept j p hp
      obtain ⟨tgt, sp, att, rfl, htgt, hsp, hatt⟩ := hw.fields
      exact ⟨tgt, sp, att, hq, htgt, hsp, hatt⟩
    · obtain ⟨_, hq, rfl⟩ := hsw.kept j p hp
      exact hq

end Sys2Proof.Machine
end

section
/-! PROOFS. The encoding's statements (30_encoding): the decoder against the encoder, against WellFormed and
against the rows of R84; the words it rejects; the response of an accepted word. -/

namespace Sys2Proof

open Sys2Proof.Claims

/-! ### The decoder and the encoder -/

@[simp] theorem valueOf_pack (f : Fields) : valueOf (pack f) = f.payload.extractLsb' 0 8 := by
  rw [valueOf_payload, payloadOf_pack]

@[simp] theorem auxOf_pack (f : Fields) : auxOf (pack f) = f.payload.extractLsb' 8 8 := by
  rw [auxOf_payload, payloadOf_pack]

@[simp] theorem speedOf_pack (f : Fields) : speedOf (pack f) = f.payload.extractLsb' 8 3 := by
  rw [speedOf_payload, payloadOf_pack]

@[simp] theorem highPayloadOf_pack (f : Fields) : highPayloadOf (pack f) = f.payload.extractLsb' 11 5 := by
  rw [highPayloadOf_payload, payloadOf_pack]

/-- Settles O10, format by format: the packed fields are read back, the reserved ones among them zero, and
each operand is its part of the payload. -/
theorem decodeOfEncodeIsTheInstruction : Obligations.DecodeOfEncodeIsTheInstruction := by
  intro i
  cases i with
  | regPw pin aux | regSv pin aux | regSw pin aux =>
    simp [encode, fieldsOf, decode, accept, okR, zOk]
  | pwSet ch v | svMove ch v => simp [encode, fieldsOf, decode, accept, okV, zOk]
  | pwFade ch v speed | svMoves ch v speed => simp [encode, fieldsOf, decode, accept, okVS, zOk]
  | pwSettled ch | svSettled ch | pwWait ch | svWait ch | svRest ch =>
    simp [encode, fieldsOf, decode, accept, okC, zOk]
  | pwAllset | svAllset | pwWaitall | svWaitall => simp [encode, fieldsOf, decode, accept, okK, zOk]
  | swActive ch hold => simp [encode, fieldsOf, decode, accept, okH, zOk]

/-- A decoded word has the fields of its instruction: the reserved ones are zero, and the payload is what its
operands lay out. -/
theorem split_eq_fieldsOf {w : Word} {i : Instr} (h : decode w = .ok i) : split w = fieldsOf i := by
  rcases decode_cases h with ⟨hop, hkind, hok, rfl⟩ | ⟨hop, hkind, hok, rfl⟩ | ⟨hop, hkind, hok, rfl⟩ |
    ⟨hop, hkind, hok, rfl⟩ | ⟨hop, hkind, hok, rfl⟩ | ⟨hop, hkind, hok, rfl⟩ | ⟨hop, hkind, hok, rfl⟩ |
    ⟨hop, hkind, hok, rfl⟩ | ⟨hop, hkind, hok, rfl⟩ | ⟨hop, hkind, hok, rfl⟩ | ⟨hop, hkind, hok, rfl⟩ |
    ⟨hop, hkind, hok, rfl⟩ | ⟨hop, hkind, hok, rfl⟩ | ⟨hop, hkind, hok, rfl⟩ | ⟨hop, hkind, hok, rfl⟩ |
    ⟨hop, hkind, hok, rfl⟩ | ⟨hop, hkind, hok, rfl⟩
  all_goals
    simp only [okR, okV, okVS, okC, okK, okH, zOk, Bool.and_eq_true, decide_eq_true_eq] at hok
    simp [split, fieldsOf, hop, hkind, hok, payloadR_of_word, payloadV_of_word, payloadVS_of_word]

/-- Settles O11: the encoder packs the fields that the word has. -/
theorem encodeOfDecodeIsTheWord : Obligations.EncodeOfDecodeIsTheWord := by
  intro w i h
  rw [encode, ← split_eq_fieldsOf h, pack_split]

/-! ### The decoder and WellFormed -/

/-- The reserved bits that the decoder checks for a command of the format (R83, R93). -/
def Format.reservedOk (fmt : Format) : Word → Bool :=
  match fmt with
  | .R => okR
  | .V => okV
  | .VS => okVS
  | .C => okC
  | .K => okK
  | .H => okH

/-- The decoder reads the high bits of a payload where WellFormed compares the payload as a number. -/
theorem extractLsb'_high_eq_zero_iff (p : BitVec 16) (start len : Nat) (h : start + len = 16) :
    p.extractLsb' start len = 0 ↔ p.toNat < 2 ^ start := by
  have hlt : p.toNat >>> start < 2 ^ len := by
    rw [Nat.shiftRight_eq_div_pow, Nat.div_lt_iff_lt_mul (by positivity), ← pow_add, Nat.add_comm, h]
    exact p.isLt
  rw [← BitVec.toNat_inj, BitVec.extractLsb'_toNat, Nat.mod_eq_of_lt hlt]
  simp [Nat.shiftRight_eq_div_pow, Nat.div_eq_zero_iff]

/-- The decoder's check of the reserved bits is WellFormed's. -/
theorem Format.reservedOk_eq (fmt : Format) (w : Word) :
    fmt.reservedOk w =
      (z1Of w = 0 && z2Of w = 0 && fmt.chOk (chOf w) && fmt.payloadOk (payloadOf w)) := by
  have hV : auxOf w = 0 ↔ (payloadOf w).toNat < 256 := by
    rw [auxOf_payload]; exact extractLsb'_high_eq_zero_iff _ 8 8 rfl
  have hVS : highPayloadOf w = 0 ↔ (payloadOf w).toNat < 2048 := by
    rw [highPayloadOf_payload]; exact extractLsb'_high_eq_zero_iff _ 11 5 rfl
  cases fmt <;>
    simp [Format.reservedOk, okR, okV, okVS, okC, okK, okH, zOk, Format.chOk, Format.payloadOk, ← hV, ← hVS]

/-- Where the pair has a format, the decoder's answer hangs on that format's reserved bits alone. -/
theorem decode_of_ofPair {w : Word} {fmt : Format} (h : Format.ofPair (opOf w) (kindOf w) = some fmt) :
    ∃ i, decode w = accept (fmt.reservedOk w) i := by
  unfold Format.ofPair at h
  split at h <;> cases h
  all_goals exact ⟨_, by simp only [decode, *]; rfl⟩

theorem ofPair_fieldsOf (i : Instr) : ∃ fmt, Format.ofPair (fieldsOf i).op (fieldsOf i).kind = some fmt := by
  cases i <;> exact ⟨_, rfl⟩

/-- A word decodes iff its pair has a format (R84) whose reserved bits are zero (R93). -/
theorem decode_ok_iff_format (w : Word) :
    (∃ i, decode w = .ok i) ↔
      ∃ fmt, Format.ofPair (opOf w) (kindOf w) = some fmt ∧ fmt.reservedOk w = true := by
  constructor
  · rintro ⟨i, hi⟩
    obtain ⟨fmt, hfmt⟩ := ofPair_fieldsOf i
    rw [← split_eq_fieldsOf hi] at hfmt
    obtain ⟨j, hj⟩ := decode_of_ofPair hfmt
    exact ⟨fmt, hfmt, (accept_ok_iff.mp (hj.symm.trans hi)).1⟩
  · rintro ⟨fmt, hfmt, hok⟩
    obtain ⟨j, hj⟩ := decode_of_ofPair hfmt
    exact ⟨j, hj.trans (accept_ok_iff.mpr ⟨hok, rfl⟩)⟩

/-- WellFormed asks the same of the pair and of the reserved bits. -/
theorem wellFormed_split_iff (w : Word) :
    (split w).wellFormed = true ↔
      ∃ fmt, Format.ofPair (opOf w) (kindOf w) = some fmt ∧ fmt.reservedOk w = true := by
  unfold Fields.wellFormed split
  split
  · simp [*]
  · simp [*, Format.reservedOk_eq]

/-- Settles O14: both ask for a pair with a format and for that format's reserved bits to be zero. -/
theorem decoderAcceptsExactlyWellFormedFields : Obligations.DecoderAcceptsExactlyWellFormedFields :=
  fun w => (decode_ok_iff_format w).trans (wellFormed_split_iff w).symm

/-! ### The decoder and the rows of R84 -/

/-- The mask of R84 for a format: op, kind and the must-be-zero bits of R83 and R93. -/
def Format.mask (fmt : Format) : Word :=
  match fmt with
  | .R => 0xFFFF0000
  | .V => 0xFF0FFF00
  | .VS => 0xFF0FF800
  | .C => 0xFF0FFFFF
  | .K => 0xFFFFFFFF
  | .H => 0xFF0F0000

/-- The payload in the three parts that the masks take or leave whole. -/
theorem payloadOf_eq_append (w : Word) : payloadOf w = highPayloadOf w ++ speedOf w ++ valueOf w := by
  unfold payloadOf highPayloadOf speedOf valueOf
  rw [BitVec.extractLsb'_append_extractLsb'_eq_extractLsb' (by decide)]
  rw [BitVec.extractLsb'_append_extractLsb'_eq_extractLsb' (by decide)]

theorem auxOf_eq_append (w : Word) : auxOf w = highPayloadOf w ++ speedOf w := by
  unfold auxOf highPayloadOf speedOf
  rw [BitVec.extractLsb'_append_extractLsb'_eq_extractLsb' (by decide)]

/-- A word is determined by eight fields, each of which a mask of R84 takes whole or leaves out. -/
theorem word_eq_iff (v w : Word) :
    v = w ↔ opOf v = opOf w ∧ kindOf v = kindOf w ∧ z1Of v = z1Of w ∧ chOf v = chOf w ∧
      z2Of v = z2Of w ∧ highPayloadOf v = highPayloadOf w ∧ speedOf v = speedOf w ∧
      valueOf v = valueOf w := by
  constructor
  · rintro rfl; simp
  · rintro ⟨hop, hkind, hz1, hch, hz2, hhigh, hspeed, hvalue⟩
    apply word_eq_of_split_eq
    simp only [split, payloadOf_eq_append, *]

theorem append_eq_zero_iff {m n : Nat} (x : BitVec m) (y : BitVec n) :
    x ++ y = 0#(m + n) ↔ x = 0#m ∧ y = 0#n := by
  constructor
  · intro h
    have hx := BitVec.extractLsb'_append_eq_left (a := x) (b := y)
    have hy := BitVec.extractLsb'_append_eq_right (a := x) (b := y)
    rw [h, BitVec.extractLsb'_zero] at hx hy
    exact ⟨hx.symm, hy.symm⟩
  · rintro ⟨rfl, rfl⟩
    exact BitVec.zero_append_zero

/-- The reserved bits of a format among the eight fields. -/
theorem Format.reservedOk_iff (fmt : Format) (w : Word) :
    fmt.reservedOk w = true ↔ z1Of w = 0 ∧ z2Of w = 0 ∧
      (fmt = .R ∨ fmt = .K → chOf w = 0) ∧
      (fmt = .V ∨ fmt = .VS ∨ fmt = .C ∨ fmt = .K → highPayloadOf w = 0) ∧
      (fmt = .V ∨ fmt = .C ∨ fmt = .K → speedOf w = 0) ∧
      (fmt = .C ∨ fmt = .K → valueOf w = 0) := by
  have haux : auxOf w = 0#8 ↔ highPayloadOf w = 0#5 ∧ speedOf w = 0#3 := by
    rw [auxOf_eq_append]; exact append_eq_zero_iff _ _
  have hpay : payloadOf w = 0#16 ↔ highPayloadOf w = 0#5 ∧ speedOf w = 0#3 ∧ valueOf w = 0#8 := by
    rw [payloadOf_eq_append, ← and_assoc, ← append_eq_zero_iff]; exact append_eq_zero_iff _ _
  cases fmt <;> simp [Format.reservedOk, okR, okV, okVS, okC, okK, okH, zOk, haux, hpay, and_assoc]

/-- A word agrees with a row's match under its mask iff it has the row's pair and its format's reserved bits
are zero: each field is compared whole or not at all. -/
theorem and_mask_eq_iff (fmt : Format) (op : BitVec 4) (kind : BitVec 2) (w : Word) :
    w &&& fmt.mask = pack ⟨op, kind, 0, 0, 0, 0⟩ ↔
      opOf w = op ∧ kindOf w = kind ∧ fmt.reservedOk w = true := by
  have h2 (x : BitVec 2) : x &&& 3#2 = x := BitVec.and_allOnes
  have h3 (x : BitVec 3) : x &&& 7#3 = x := BitVec.and_allOnes
  have h4 (x : BitVec 4) : x &&& 15#4 = x := BitVec.and_allOnes
  have h5 (x : BitVec 5) : x &&& 31#5 = x := BitVec.and_allOnes
  have h8 (x : BitVec 8) : x &&& 255#8 = x := BitVec.and_allOnes
  rw [word_eq_iff, Format.reservedOk_iff]
  simp only [opOf_pack, kindOf_pack, z1Of_pack, chOf_pack, z2Of_pack, highPayloadOf_pack,
    speedOf_pack, valueOf_pack]
  cases fmt <;>
    simp [Format.mask, opOf, kindOf, z1Of, chOf, z2Of, highPayloadOf, speedOf, valueOf,
      BitVec.extractLsb'_and, h2, h3, h4, h5, h8]
  all_goals tauto

/-- Every row's match holds its pair, its mask is its format's, and the decoder answers a word of the pair
with the row's command. -/
theorem row_decode : ∀ r ∈ rows, ∃ (op : BitVec 4) (kind : BitVec 2) (fmt : Format),
    r.mask = fmt.mask ∧ r.value = pack ⟨op, kind, 0, 0, 0, 0⟩ ∧
    ∀ w, opOf w = op → kindOf w = kind → decode w = accept (fmt.reservedOk w) (r.command w) := by
  simp only [rows, List.forall_mem_cons, List.not_mem_nil, false_implies, implies_true, and_true]
  refine ⟨⟨1, 0, .R, ?_⟩, ⟨1, 1, .R, ?_⟩, ⟨1, 2, .R, ?_⟩, ⟨2, 0, .V, ?_⟩, ⟨2, 1, .V, ?_⟩, ⟨3, 0, .VS, ?_⟩,
    ⟨3, 1, .VS, ?_⟩, ⟨4, 0, .C, ?_⟩, ⟨4, 1, .C, ?_⟩, ⟨5, 0, .K, ?_⟩, ⟨5, 1, .K, ?_⟩, ⟨6, 0, .C, ?_⟩,
    ⟨6, 1, .C, ?_⟩, ⟨7, 0, .K, ?_⟩, ⟨7, 1, .K, ?_⟩, ⟨8, 1, .C, ?_⟩, ⟨9, 2, .H, ?_⟩⟩
  all_goals exact ⟨rfl, rfl, fun w hop hkind => by simp only [decode, hop, hkind]; rfl⟩

theorem decode_of_row {r : Row} (hr : r ∈ rows) {w : Word} (h : w &&& r.mask = r.value) :
    decode w = .ok (r.command w) := by
  obtain ⟨op, kind, fmt, hmask, hvalue, hdecode⟩ := row_decode r hr
  rw [hmask, hvalue, and_mask_eq_iff] at h
  obtain ⟨hop, hkind, hok⟩ := h
  rw [hdecode w hop hkind, hok, accept_true]

/-- Every pair with a format has a row. -/
theorem row_of_ofPair : ∀ (op : BitVec 4) (kind : BitVec 2), ∀ fmt ∈ Format.ofPair op kind,
    ∃ r ∈ rows, r.mask = fmt.mask ∧ r.value = pack ⟨op, kind, 0, 0, 0, 0⟩ := by decide

theorem exists_row_of_decode {w : Word} {i : Instr} (h : decode w = .ok i) :
    ∃ r ∈ rows, w &&& r.mask = r.value ∧ i = r.command w := by
  obtain ⟨fmt, hfmt, hok⟩ := (decode_ok_iff_format w).mp ⟨i, h⟩
  obtain ⟨r, hr, hmask, hvalue⟩ := row_of_ofPair _ _ _ hfmt
  have hmatch : w &&& r.mask = r.value := by
    rw [hmask, hvalue]; exact (and_mask_eq_iff ..).mpr ⟨rfl, rfl, hok⟩
  exact ⟨r, hr, hmatch, Except.ok.inj (h.symm.trans (decode_of_row hr hmatch))⟩

/-- Every mask takes a word's top byte, in which a row's match has all its bits. -/
theorem row_topByte : ∀ r ∈ rows, r.mask &&& 0xFF000000#32 = 0xFF000000#32 ∧
    r.value &&& 0xFF000000#32 = r.value := by decide

theorem row_value_eq_topByte {r : Row} (hr : r ∈ rows) {w : Word} (h : w &&& r.mask = r.value) :
    r.value = w &&& 0xFF000000#32 := by
  obtain ⟨hmask, hvalue⟩ := row_topByte r hr
  rw [← hvalue, ← h, BitVec.and_assoc, hmask]

/-- Settles O12: a matched row is read off the top byte. -/
theorem decoderFollowsMatchAndMask : Obligations.DecoderFollowsMatchAndMask :=
  ⟨fun _ hr _ => decode_of_row hr, fun _ _ => exists_row_of_decode, fun _ hr _ hr' _ h h' =>
    (row_value_eq_topByte hr h).trans (row_value_eq_topByte hr' h').symm⟩

/-! ### The words that are no command -/

theorem row_mask_op : ∀ r ∈ rows, r.mask.extractLsb' 28 4 = BitVec.allOnes 4 := by decide

/-- A word that matches no row is rejected (R91). -/
theorem decode_error_of_no_row {w : Word} (h : ∀ r ∈ rows, w &&& r.mask ≠ r.value) :
    ∃ e, decode w = .error e := by
  cases hw : decode w with
  | error e => exact ⟨e, rfl⟩
  | ok i =>
    obtain ⟨r, hr, hmatch, _⟩ := exists_row_of_decode hw
    exact absurd hmatch (h r hr)

/-- A field that the masks of the op's rows take is their match's in every word that decodes, so a word in
which it is not is rejected (R93). -/
theorem decode_error_of_field {w : Word} (start len : Nat) (Op : BitVec 4 → Prop) (Bad : BitVec len → Prop)
    (hrows : ∀ r ∈ rows, Op (r.value.extractLsb' 28 4) →
      r.mask.extractLsb' start len = BitVec.allOnes len ∧ ¬ Bad (r.value.extractLsb' start len))
    (hop : Op (w.extractLsb' 28 4)) (hbad : Bad (w.extractLsb' start len)) : ∃ e, decode w = .error e := by
  refine decode_error_of_no_row fun r hr hmatch => ?_
  rw [extract_of_mask w _ _ 28 4 hmatch (row_mask_op r hr)] at hop
  obtain ⟨hmask, hgood⟩ := hrows r hr hop
  rw [extract_of_mask w _ _ start len hmatch hmask] at hbad
  exact hgood hbad

/-- Settles O13, each clause from the table of rows. -/
theorem reservedEncodingsAreRejected : Obligations.ReservedEncodingsAreRejected := by
  refine ⟨fun w hpair => ?_, fun w hkind => ?_, fun w hz => ?_, fun w hop hch => ?_, fun w hop haux => ?_,
    fun w hop hhigh => ?_, fun w hop hpayload => ?_⟩
  · exact decode_error_of_field 24 8 (fun _ => True) (· ∈ _) (by decide) trivial hpair
  · exact decode_error_of_field 26 2 (fun _ => True) (· = 3#2) (by decide) trivial hkind
  · rcases hz with hz1 | hz2
    · exact decode_error_of_field 24 2 (fun _ => True) (· ≠ 0#2) (by decide) trivial hz1
    · exact decode_error_of_field 16 4 (fun _ => True) (· ≠ 0#4) (by decide) trivial hz2
  · exact decode_error_of_field 20 4 (· ∈ _) (· ≠ 0#4) (by decide) hop hch
  · exact decode_error_of_field 8 8 (· = 2#4) (· ≠ 0#8) (by decide) hop haux
  · exact decode_error_of_field 11 5 (· = 3#4) (· ≠ 0#5) (by decide) hop hhigh
  · exact decode_error_of_field 0 16 (· ∈ _) (· ≠ 0#16) (by decide) hop hpayload

end Sys2Proof

namespace Sys2Proof.Machine

open Sys2Proof.Claims

/-! ### Running a word -/

/-- An error that a model blames on the host, in the words of the statements (R210, log 13). -/
theorem raise_eq_rejected {st : Status} (h : blamesHost st = true) (s : State) :
    raise st s = rejected s (responseWord st (errorData st)) := by
  simp [raise, respond, h]

theorem runWord_of_illegal {w : Word} (h : ∃ e, decode w = .error e) (s : State) :
    runWord w s = .next (rejected s 0x50000000#32) := by
  obtain ⟨e, he⟩ := h
  have hrun : runWord w s = .next (raise .illegalCommand s) := by simp only [runWord, he]
  exact hrun.trans (congrArg _ (raise_eq_rejected rfl s))

/-- An illegal word is never held (R91). -/
theorem wordReady_of_illegal {w : Word} (h : ∃ e, decode w = .error e) (s : State) : wordReady w s = true := by
  obtain ⟨e, he⟩ := h
  simp only [wordReady, he]

/-- Settles O16: the word is rejected, so it is ready, and the step runs it. -/
theorem wordsOutsideTheListAreIllegal : Obligations.WordsOutsideTheListAreIllegal := by
  intro s w h
  have hillegal := decode_error_of_no_row h
  have hready := wordReady_of_illegal hillegal s
  have hrun := runWord_of_illegal hillegal s
  refine ⟨hrun, fun hcmd hrst htick => ⟨?_, ?_⟩⟩
  · simp only [cmdReady, hcmd, hready]
  · rw [step_of_command hrst hcmd hready (.inl htick), hrun]

theorem statusCode_le (st : Status) : (statusCode st).toNat ≤ 5 := by cases st <;> decide

/-- A ready word leaves the port and its answer is a response word (R34, R95). -/
theorem runWord_of_ready {w : Word} {s t : State} (hw : wordReady w s = true) (h : runWord w s = .next t) :
    t.cmd = none ∧ ∃ st data, t.rsp = some (responseWord st data) := by
  rcases runWord_cases h with ⟨i, hi, hexec⟩ | ⟨_, rfl⟩
  · have hheld : held i s = false := by simpa [wordReady, hi] using hw
    exact exec_of_not_held hheld hexec
  · exact ⟨rfl, _, _, rfl⟩

/-- A word that is not ready waits (R190). -/
theorem runWord_of_not_ready {w : Word} {s : State} (hw : wordReady w s = false) :
    runWord w s = .next (holdCommand s) := by
  unfold wordReady at hw
  cases hd : decode w with
  | ok i =>
    have hheld : held i s = true := by simpa [hd] using hw
    simp only [runWord, hd, exec_of_held hheld]
  | error e => simp [hd] at hw

/-- Settles O19: a ready word's answer is a response word; one that is not ready is a held command. -/
theorem acceptedCommandsGetExactlyOneResponse : Obligations.AcceptedCommandsGetExactlyOneResponse := by
  intro w s t h
  constructor
  · intro hw
    obtain ⟨hcmd, st, data, hrsp⟩ := runWord_of_ready hw h
    refine ⟨hcmd, _, hrsp, responseWord_zeros st data, ?_⟩
    rw [responseWord_status]; exact statusCode_le st
  · intro hw
    cases (runWord_of_not_ready hw).symm.trans h
    exact ⟨rfl, rfl⟩

/-! ### The worked words -/

theorem workedEncodings_agree : ∀ x ∈ workedEncodings, decode x.1 = .ok x.2 ∧ encode x.2 = x.1 := by decide

/-- The three illegal words: op 0, a pair of R92, a bit of z2 set. -/
theorem workedIllegalWords_rejected : ∀ w ∈ ([0x00000000, 0x48000000, 0x20010000] : List Word),
    ∃ e, decode w = .error e := by
  simp only [List.forall_mem_cons, List.not_mem_nil, false_implies, implies_true, and_true]
  exact ⟨⟨.reservedOp, rfl⟩, ⟨.noSuchPair, rfl⟩, ⟨.mustBeZero, rfl⟩⟩

/-- Settles O15: the response words are evaluated. -/
theorem workedEncodingsAgreeWithTheSpec : Obligations.WorkedEncodingsAgreeWithTheSpec :=
  ⟨workedEncodings_agree, fun w hw => runWord_of_illegal (workedIllegalWords_rejected w hw), by decide⟩

end Sys2Proof.Machine
end

section
/-! PROOFS. The registry's statement (40_registry): the words of the registration rows, and each command's
whole next state on both sides of the capacity. -/

namespace Sys2Proof.Machine

open Sys2Proof.Claims

/-! ### The answers -/

/-- Every legal capacity is small enough for an id to fit the response's data byte (R95, R97). -/
theorem responseWord_idData {n : Nat} (hn : n < 256) : responseWord .ok (idData n) = BitVec.ofNat 32 n := by
  have hzeros : (0#4 ++ 0#20 : BitVec 24) = 0#24 := by decide
  have hword : responseWord .ok (idData n) = (0#24 ++ idData n : BitVec 32) :=
    congrArg (· ++ idData n) hzeros
  apply BitVec.eq_of_toNat_eq
  rw [hword, BitVec.toNat_append, idData]
  simp only [BitVec.toNat_ofNat, Nat.zero_mod, Nat.zero_shiftLeft, Nat.zero_or]
  omega

theorem respond_idData {n : Nat} (hn : n < 256) (s : State) :
    respond .ok (idData n) s = answered s (BitVec.ofNat 32 n) := by
  rw [respond, responseWord_idData hn]

/-- The one error that is not blamed on the host (R211). -/
theorem raise_capacityExceeded (s : State) : raise .capacityExceeded s = answered s 0x100000FF#32 := by
  have hword : responseWord .capacityExceeded (errorData .capacityExceeded) = 0x100000FF#32 := by decide
  simp only [raise, respond, hword, blamesHost, Bool.or_false]

/-! ### The common procedure at each kind (R111) -/

section Registration

variable {s : State} (pin : Pin) (aux : BitVec 8)

theorem exec_regPw_of_full (h : s.cfg.capPw ≤ s.pw.length) :
    exec (.regPw pin aux) s = .next (raise .capacityExceeded s) := if_pos h

theorem exec_regPw_of_room (h : s.pw.length < s.cfg.capPw) :
    exec (.regPw pin aux) s = .next (respond .ok (idData s.pw.length)
      (emit (.pinMode pin .out) (appendPw (initialPw s.cfg pin) s))) := if_neg (Nat.not_le.mpr h)

theorem exec_regSv_of_full (h : s.cfg.capSv ≤ s.sv.length) :
    exec (.regSv pin aux) s = .next (raise .capacityExceeded s) := if_pos h

/-- The two outcomes of `SV_ATTACH_AT_REG` differ in the events alone (R113). -/
theorem exec_regSv_of_room (h : s.sv.length < s.cfg.capSv) :
    exec (.regSv pin aux) s = .next (respond .ok (idData s.sv.length)
      { appendSv (initialSv s.cfg pin) s with
        trace := s.trace ++ ([.pinMode pin .out] ++
          if s.cfg.svAttachAtReg then [.svAttach pin] else []) }) := by
  refine (if_neg (Nat.not_le.mpr h)).trans ?_
  cases s.cfg.svAttachAtReg <;> simp [emit, nSv]

theorem exec_regSw_of_full (h : s.cfg.capSw ≤ s.sw.length) :
    exec (.regSw pin aux) s = .next (raise .capacityExceeded s) := if_pos h

theorem exec_regSw_of_room (h : s.sw.length < s.cfg.capSw) :
    exec (.regSw pin aux) s = .next (respond .ok (idData s.sw.length)
      (emit (.pinMode pin .inp) (appendSw (initialSw pin) s))) := if_neg (Nat.not_le.mpr h)

end Registration

/-- Settles O1: the words are the first three rows of R84; a full table is answered with the error, and one
with room with the old counter, which a legal capacity keeps within the data byte. -/
theorem registrationAppendsOneSlotOrReportsCapacity :
    Obligations.RegistrationAppendsOneSlotOrReportsCapacity := by
  refine ⟨fun w => decode_of_row (r := rows[0]) (List.getElem_mem _),
    fun w => decode_of_row (r := rows[1]) (List.getElem_mem _),
    fun w => decode_of_row (r := rows[2]) (List.getElem_mem _), fun s pin aux hlegal => ?_⟩
  obtain ⟨⟨_, hpw⟩, ⟨_, hsv⟩, ⟨_, hsw⟩, _⟩ := hlegal
  refine ⟨fun hfull => ?_, fun hroom => ?_, fun hfull => ?_, fun hroom => ?_, fun hfull => ?_,
    fun hroom => ?_⟩
  · rw [exec_regPw_of_full pin aux hfull.ge, raise_capacityExceeded]
  · rw [exec_regPw_of_room pin aux hroom, respond_idData (by omega)]; rfl
  · rw [exec_regSv_of_full pin aux hfull.ge, raise_capacityExceeded]
  · rw [exec_regSv_of_room pin aux hroom, respond_idData (by omega)]; rfl
  · rw [exec_regSw_of_full pin aux hfull.ge, raise_capacityExceeded]
  · rw [exec_regSw_of_room pin aux hroom, respond_idData (by omega)]; rfl

end Sys2Proof.Machine
end

section
/-! PROOFS. The step law's statements (41_step_law): one application as a move of a counted amount toward the
target, the ramps counted by it, the law mirrored, and where it and the tick agent stop. -/

namespace Sys2Proof.Machine

open Sys2Proof.Claims

/-! ### The distance and the ramp speeds -/

theorem distance_toNat_eq_gap (cur tgt : BitVec 8) : (distance cur tgt).toNat = gap cur tgt :=
  distance_toNat cur tgt

theorem gap_of_le {cur tgt : BitVec 8} (h : cur.toNat ≤ tgt.toNat) : gap cur tgt = tgt.toNat - cur.toNat :=
  if_pos h

theorem gap_of_ge {cur tgt : BitVec 8} (h : tgt.toNat ≤ cur.toNat) : gap cur tgt = cur.toNat - tgt.toNat := by
  unfold gap; split <;> omega

theorem gap_eq_zero_iff {cur tgt : BitVec 8} : gap cur tgt = 0 ↔ cur = tgt := by
  rw [← BitVec.toNat_inj, gap]
  split <;> omega

theorem gap_self (v : BitVec 8) : gap v v = 0 := gap_eq_zero_iff.mpr rfl

theorem one_le_toNat_of_ne_zero {speed : SpeedCode} (h : speed ≠ 0) : 1 ≤ speed.toNat :=
  Nat.one_le_iff_ne_zero.mpr fun e => h (BitVec.eq_of_toNat_eq e)

/-! ### One application -/

/-- From `cur`, `nxt` is `m` units further toward `tgt` and not past it; so `cur` is not settled. -/
structure MovesBy (cur tgt nxt : BitVec 8) (m : Nat) : Prop where
  pos : 1 ≤ m
  le_gap : m ≤ gap cur tgt
  toNat_eq : nxt.toNat = if cur.toNat < tgt.toNat then cur.toNat + m else cur.toNat - m

section MovesBy

variable {cur tgt nxt : BitVec 8} {m : Nat}

theorem MovesBy.gap_pos (h : MovesBy cur tgt nxt m) : 0 < gap cur tgt := Nat.lt_of_lt_of_le h.pos h.le_gap

theorem MovesBy.ne (h : MovesBy cur tgt nxt m) : cur ≠ tgt := fun e => h.gap_pos.ne' (gap_eq_zero_iff.mpr e)

/-- The two directions of a move (R134); in neither can the sum or the difference wrap. -/
theorem MovesBy.up_or_down (h : MovesBy cur tgt nxt m) :
    (cur.toNat + m ≤ tgt.toNat ∧ nxt.toNat = cur.toNat + m) ∨
    (tgt.toNat + m ≤ cur.toNat ∧ nxt.toNat + m = cur.toNat) := by
  obtain ⟨_, hle, hnxt⟩ := h
  rcases Nat.lt_or_ge cur.toNat tgt.toNat with hup | hdown
  · rw [gap_of_le hup.le] at hle
    rw [if_pos hup] at hnxt
    omega
  · rw [gap_of_ge hdown] at hle
    rw [if_neg (Nat.not_lt.mpr hdown)] at hnxt
    omega

theorem MovesBy.gap_moved (h : MovesBy cur tgt nxt m) : gap cur nxt = m := by
  have hpos := h.pos
  rcases h.up_or_down with ⟨_, hnxt⟩ | ⟨_, hnxt⟩
  · rw [gap_of_le (by omega)]; omega
  · rw [gap_of_ge (by omega)]; omega

theorem MovesBy.gap_left (h : MovesBy cur tgt nxt m) : gap nxt tgt = gap cur tgt - m := by
  rcases h.up_or_down with ⟨hle, hnxt⟩ | ⟨hle, hnxt⟩
  · rw [gap_of_le (by omega), gap_of_le (by omega)]; omega
  · rw [gap_of_ge (by omega), gap_of_ge (by omega)]; omega

theorem MovesBy.up_iff (h : MovesBy cur tgt nxt m) : cur.toNat < tgt.toNat ↔ cur.toNat < nxt.toNat := by
  have hpos := h.pos
  rcases h.up_or_down with ⟨_, _⟩ | ⟨_, _⟩ <;> omega

end MovesBy

/-- The answer of one application lies where R139 says: between the two ends, and off `cur` unless settled. -/
def Between (cur tgt nxt : BitVec 8) : Prop :=
  (cur.toNat < tgt.toNat → cur.toNat < nxt.toNat ∧ nxt.toNat ≤ tgt.toNat) ∧
  (tgt.toNat < cur.toNat → tgt.toNat ≤ nxt.toNat ∧ nxt.toNat < cur.toNat) ∧
  (cur = tgt → nxt = cur)

theorem between_self (v : BitVec 8) : Between v v v :=
  ⟨fun h => absurd h (Nat.lt_irrefl _), fun h => absurd h (Nat.lt_irrefl _), fun _ => rfl⟩

theorem MovesBy.between {cur tgt nxt : BitVec 8} {m : Nat} (h : MovesBy cur tgt nxt m) :
    Between cur tgt nxt := by
  have hpos := h.pos
  rcases h.up_or_down with ⟨hle, hnxt⟩ | ⟨hle, hnxt⟩
  · exact ⟨fun _ => by omega, fun _ => by omega, fun e => absurd e h.ne⟩
  · exact ⟨fun _ => by omega, fun _ => by omega, fun e => absurd e h.ne⟩

/-- How far StepPW moves a channel at distance `d` from its target (R132, R133, R135). -/
def amountPw (d : Nat) (speed : SpeedCode) : Nat :=
  if speed = 0 then d else if d < 2 ^ (speed.toNat - 1) then 1 else 2 ^ (speed.toNat - 1)

/-- How far StepSV moves a channel at distance `d` from its target (R133, R136). -/
def amountSv (d : Nat) (speed : SpeedCode) : Nat := min d (2 ^ (speed.toNat - 1))

theorem amountPw_zero (d : Nat) : amountPw d 0 = d := rfl

theorem amountPw_ramp (d : Nat) {speed : SpeedCode} (h : speed ≠ 0) :
    amountPw d speed = if d < 2 ^ (speed.toNat - 1) then 1 else 2 ^ (speed.toNat - 1) := if_neg h

theorem movesBy_snap {cur tgt : BitVec 8} (h : cur ≠ tgt) : MovesBy cur tgt tgt (gap cur tgt) := by
  refine ⟨Nat.one_le_iff_ne_zero.mpr fun e => h (gap_eq_zero_iff.mp e), Nat.le_refl _, ?_⟩
  rcases Nat.lt_or_ge cur.toNat tgt.toNat with hup | hdown
  · rw [gap_of_le hup.le, if_pos hup]; omega
  · rw [gap_of_ge hdown, if_neg (Nat.not_lt.mpr hdown)]; omega

theorem stepPw_movesBy {cur tgt : Level} {speed : SpeedCode} (h : cur ≠ tgt) (h5 : speed.toNat ≤ 5) :
    ∃ nxt, stepPw cur tgt speed = some nxt ∧ MovesBy cur tgt nxt (amountPw (gap cur tgt) speed) := by
  by_cases h0 : speed = 0
  · subst h0
    exact ⟨tgt, stepPw_snap h, movesBy_snap h⟩
  · obtain ⟨nxt, m, hstep, hm, hpos, hle, hnxt⟩ := stepPw_ramp h (one_le_toNat_of_ne_zero h0) h5
    rw [distance_toNat_eq_gap] at hm hle
    rw [amountPw_ramp _ h0, ← hm]
    exact ⟨nxt, hstep, hpos, hle, hnxt⟩

theorem stepSv_movesBy {cur tgt : Angle} {speed : SpeedCode} (h : cur ≠ tgt) (h1 : 1 ≤ speed.toNat)
    (h5 : speed.toNat ≤ 5) :
    ∃ nxt, stepSv cur tgt speed = some nxt ∧ MovesBy cur tgt nxt (amountSv (gap cur tgt) speed) := by
  obtain ⟨nxt, m, hstep, hm, hpos, hle, hnxt⟩ := stepSv_ramp h h1 h5
  rw [distance_toNat_eq_gap] at hm hle
  rw [amountSv, ← hm]
  exact ⟨nxt, hstep, hpos, hle, hnxt⟩

theorem stepPw_between (cur tgt : Level) (speed : SpeedCode) (h5 : speed.toNat ≤ 5) :
    ∃ nxt, stepPw cur tgt speed = some nxt ∧ Between cur tgt nxt := by
  rcases eq_or_ne cur tgt with rfl | h
  · exact ⟨cur, stepPw_self cur speed, between_self cur⟩
  · obtain ⟨nxt, hstep, hmove⟩ := stepPw_movesBy h h5
    exact ⟨nxt, hstep, hmove.between⟩

theorem stepSv_between (cur tgt : Angle) (speed : SpeedCode) (h1 : 1 ≤ speed.toNat) (h5 : speed.toNat ≤ 5) :
    ∃ nxt, stepSv cur tgt speed = some nxt ∧ Between cur tgt nxt := by
  rcases eq_or_ne cur tgt with rfl | h
  · exact ⟨cur, stepSv_self cur speed, between_self cur⟩
  · obtain ⟨nxt, hstep, hmove⟩ := stepSv_movesBy h h1 h5
    exact ⟨nxt, hstep, hmove.between⟩

/-- Settles O29: an unsettled channel's application is a move of 1 up to the whole distance. -/
theorem stepLawNeverOvershoots : Obligations.StepLawNeverOvershoots := ⟨stepPw_between, stepSv_between⟩

/-- Settles O31: the amounts of the two moves, and the servo's clamped move leaves no distance. -/
theorem stepMagnitudeIsFullUntilClamped : Obligations.StepMagnitudeIsFullUntilClamped := by
  intro cur tgt speed h h1 h5
  have h0 : speed ≠ 0 := by rintro rfl; exact absurd h1 (by decide)
  obtain ⟨a, hstepA, hmoveA⟩ := stepPw_movesBy h h5
  obtain ⟨b, hstepB, hmoveB⟩ := stepSv_movesBy h h1 h5
  refine ⟨a, b, hstepA, hstepB, fun hfull => ?_, fun hclamped => ?_, hmoveA.up_iff, hmoveB.up_iff⟩
  · rw [hmoveA.gap_moved, hmoveB.gap_moved, amountPw_ramp _ h0, if_neg (Nat.not_lt.mpr hfull), amountSv,
      Nat.min_eq_right hfull]
    exact ⟨rfl, rfl⟩
  · rw [hmoveA.gap_moved, amountPw_ramp _ h0, if_pos hclamped, ← gap_eq_zero_iff, hmoveB.gap_left, amountSv,
      Nat.min_eq_left hclamped.le, Nat.sub_self]
    exact ⟨rfl, rfl⟩

/-! ### Repeated application -/

section Ramp

variable {step : BitVec 8 → Option (BitVec 8)} {ramp : Nat → BitVec 8 → Option (BitVec 8)}
  {tgt : BitVec 8} {count : BitVec 8 → Nat}

/-- A count that is 0 at the target and that each application before it lowers by one is the number of
applications to the target. -/
theorem ramp_eq_target_iff (hzero : ∀ cur, ramp 0 cur = some cur)
    (hsucc : ∀ k cur, ramp (k + 1) cur = (step cur).bind (ramp k))
    (hself : step tgt = some tgt) (hcount : count tgt = 0)
    (hstep : ∀ cur, cur ≠ tgt → ∃ nxt, step cur = some nxt ∧ count cur = count nxt + 1)
    (k : Nat) (cur : BitVec 8) : ∃ v, ramp k cur = some v ∧ (v = tgt ↔ count cur ≤ k) := by
  induction k generalizing cur with
  | zero =>
    refine ⟨cur, hzero cur, fun e => by rw [e, hcount], fun hle => ?_⟩
    by_contra hne
    obtain ⟨_, _, hnxt⟩ := hstep cur hne
    omega
  | succ k ih =>
    rw [hsucc]
    rcases eq_or_ne cur tgt with rfl | hne
    · rw [hself, Option.bind_some]
      obtain ⟨v, hv, hiff⟩ := ih cur
      exact ⟨v, hv, hiff.trans (by omega)⟩
    · obtain ⟨nxt, hnxt, hc⟩ := hstep cur hne
      rw [hnxt, Option.bind_some]
      obtain ⟨v, hv, hiff⟩ := ih nxt
      exact ⟨v, hv, hiff.trans (by omega)⟩

end Ramp

theorem countPw_self (v : Level) (speed : SpeedCode) : countPw v v speed = 0 := by
  simp [countPw, gap_self]

theorem countSv_self (v : Angle) (speed : SpeedCode) : countSv v v speed = 0 := by
  simp [countSv, gap_self]

/-- One application of a pulse-width ramp is one of the counted ones (R140): a clamped one lowers the
remainder, another one the quotient. -/
theorem pwCount_sub {d s : Nat} (hd : 0 < d) (hs : 0 < s) :
    d / s + d % s = (d - if d < s then 1 else s) / s + (d - if d < s then 1 else s) % s + 1 := by
  rcases Nat.lt_or_ge d s with hlt | hge
  · rw [if_pos hlt, Nat.div_eq_of_lt hlt, Nat.mod_eq_of_lt hlt, Nat.div_eq_of_lt (by omega),
      Nat.mod_eq_of_lt (by omega)]
    omega
  · rw [if_neg (Nat.not_lt.mpr hge), Nat.div_eq_sub_div hs hge, Nat.mod_eq_sub_mod hge]
    omega

/-- One application of a servo ramp is one of the counted ones (R140): the clamped one is the last. -/
theorem svCount_sub {d s : Nat} (hd : 0 < d) (hs : 0 < s) :
    d / s + (if d % s = 0 then 0 else 1) =
      (d - min d s) / s + (if (d - min d s) % s = 0 then 0 else 1) + 1 := by
  rcases Nat.lt_or_ge d s with hlt | hge
  · rw [Nat.min_eq_left hlt.le, Nat.sub_self, Nat.div_eq_of_lt hlt, Nat.mod_eq_of_lt hlt, Nat.zero_div,
      Nat.zero_mod, if_neg hd.ne', if_pos rfl]
  · rw [Nat.min_eq_right hge, Nat.div_eq_sub_div hs hge, Nat.mod_eq_sub_mod hge]
    omega

theorem countPw_of_movesBy {cur tgt nxt : Level} {speed : SpeedCode}
    (h : MovesBy cur tgt nxt (amountPw (gap cur tgt) speed)) :
    countPw cur tgt speed = countPw nxt tgt speed + 1 := by
  have hgap := h.gap_pos
  unfold countPw
  rw [h.gap_left]
  by_cases h0 : speed = 0
  · rw [h0, amountPw_zero, Nat.sub_self, if_pos rfl, if_pos rfl, if_pos hgap, if_neg (Nat.lt_irrefl 0)]
  · rw [if_neg h0, if_neg h0, amountPw_ramp _ h0, pwCount_sub hgap (Nat.two_pow_pos _)]

theorem countSv_of_movesBy {cur tgt nxt : Angle} {speed : SpeedCode}
    (h : MovesBy cur tgt nxt (amountSv (gap cur tgt) speed)) :
    countSv cur tgt speed = countSv nxt tgt speed + 1 := by
  unfold countSv
  rw [h.gap_left, amountSv, svCount_sub h.gap_pos (Nat.two_pow_pos _)]

/-- Settles O30: by induction on the applications; every one before the target lowers the count of R140
by one. -/
theorem rampsConvergeInTheCountedApplications : Obligations.RampsConvergeInTheCountedApplications := by
  constructor
  · intro cur tgt speed h5 k
    refine ramp_eq_target_iff (step := (stepPw · tgt speed)) (count := (countPw · tgt speed))
      (fun _ => rfl) (fun _ _ => rfl) (stepPw_self tgt speed) (countPw_self tgt speed) (fun cur h => ?_) k cur
    obtain ⟨nxt, hstep, hmove⟩ := stepPw_movesBy h h5
    exact ⟨nxt, hstep, countPw_of_movesBy hmove⟩
  · intro cur tgt speed h1 h5 k
    refine ramp_eq_target_iff (step := (stepSv · tgt speed)) (count := (countSv · tgt speed))
      (fun _ => rfl) (fun _ _ => rfl) (stepSv_self tgt speed) (countSv_self tgt speed) (fun cur h => ?_) k cur
    obtain ⟨nxt, hstep, hmove⟩ := stepSv_movesBy h h1 h5
    exact ⟨nxt, hstep, countSv_of_movesBy hmove⟩

/-! ### Where the functions are defined -/

/-- StepPW of an unsettled channel that does not snap (R137). -/
theorem stepPw_of_unsettled {cur tgt : Level} {speed : SpeedCode} (h : cur ≠ tgt) (h0 : speed ≠ 0) :
    stepPw cur tgt speed =
      (stepSize speed).map fun step => moveToward cur tgt (clampPw (distance cur tgt) step) := by
  rw [stepPw, if_neg h, if_neg h0]

/-- StepSV of an unsettled channel (R138). -/
theorem stepSv_of_unsettled {cur tgt : Angle} {speed : SpeedCode} (h : cur ≠ tgt) :
    stepSv cur tgt speed =
      (stepSize speed).map fun step => moveToward cur tgt (clampSv (distance cur tgt) step) := by
  rw [stepSv, if_neg h]

theorem stepPw_eq_none_iff {cur tgt : Level} {speed : SpeedCode} (h : cur ≠ tgt) :
    stepPw cur tgt speed = none ↔ speed = 6 ∨ speed = 7 := by
  by_cases h0 : speed = 0
  · subst h0
    rw [stepPw_snap h]
    exact iff_of_false (Option.some_ne_none tgt) (by decide)
  · rw [stepPw_of_unsettled h h0, Option.map_eq_none_iff, stepSize_eq_none_iff, or_iff_right h0]

theorem stepSv_eq_none_iff {cur tgt : Angle} {speed : SpeedCode} (h : cur ≠ tgt) :
    stepSv cur tgt speed = none ↔ speed = 0 ∨ speed = 6 ∨ speed = 7 := by
  rw [stepSv_of_unsettled h, Option.map_eq_none_iff, stepSize_eq_none_iff]

/-- Settles O33: unsettled, the functions have no value exactly where the step table and the snap have
none. -/
theorem stepLawDomain : Obligations.StepLawDomain :=
  ⟨fun v speed => ⟨stepPw_self v speed, stepSv_self v speed⟩, fun _ _ h => stepPw_snap h,
    fun _ _ _ h => ⟨stepPw_eq_none_iff h, stepSv_eq_none_iff h⟩⟩

/-! ### The law mirrored -/

theorem mirror_toNat (v : BitVec 8) : (255 - v).toNat = 255 - v.toNat :=
  BitVec.toNat_sub_of_le (BitVec.le_def.mpr (Nat.le_of_lt_succ v.isLt))

theorem mirror_ne {cur tgt : BitVec 8} (h : cur ≠ tgt) : 255 - cur ≠ 255 - tgt :=
  fun e => h (sub_right_injective e)

theorem distance_mirror (cur tgt : BitVec 8) : distance (255 - cur) (255 - tgt) = distance cur tgt := by
  apply BitVec.eq_of_toNat_eq
  rw [distance_toNat, distance_toNat, mirror_toNat, mirror_toNat]
  split <;> split <;> omega

/-- The mirrored channel moves the other way by the same amount (R134). -/
theorem moveToward_mirror {cur tgt : BitVec 8} (h : cur ≠ tgt) (step : BitVec 8) :
    moveToward (255 - cur) (255 - tgt) step = 255 - moveToward cur tgt step := by
  have hne : cur.toNat ≠ tgt.toNat := fun e => h (BitVec.eq_of_toNat_eq e)
  unfold moveToward
  rw [mirror_toNat, mirror_toNat]
  rcases Nat.lt_or_gt_of_ne hne with hup | hdown
  · rw [if_neg (by omega), if_pos hup, sub_sub]
  · rw [if_pos (by omega), if_neg (by omega), sub_sub_eq_add_sub, sub_add_eq_add_sub]

theorem stepPw_mirror (cur tgt : Level) (speed : SpeedCode) :
    stepPw (255 - cur) (255 - tgt) speed = (stepPw cur tgt speed).map (255 - ·) := by
  rcases eq_or_ne cur tgt with rfl | h
  · rw [stepPw_self, stepPw_self, Option.map_some]
  · by_cases h0 : speed = 0
    · rw [h0, stepPw_snap h, stepPw_snap (mirror_ne h), Option.map_some]
    · rw [stepPw_of_unsettled h h0, stepPw_of_unsettled (mirror_ne h) h0, Option.map_map, distance_mirror]
      exact Option.map_congr fun step _ => moveToward_mirror h _

theorem stepSv_mirror (cur tgt : Angle) (speed : SpeedCode) :
    stepSv (255 - cur) (255 - tgt) speed = (stepSv cur tgt speed).map (255 - ·) := by
  rcases eq_or_ne cur tgt with rfl | h
  · rw [stepSv_self, stepSv_self, Option.map_some]
  · rw [stepSv_of_unsettled h, stepSv_of_unsettled (mirror_ne h), Option.map_map, distance_mirror]
    exact Option.map_congr fun step _ => moveToward_mirror h _

/-- Settles O32: mirroring keeps the distance, so also the clamped step, and turns the direction round. -/
theorem stepLawIsSymmetric : Obligations.StepLawIsSymmetric :=
  fun cur tgt speed => ⟨stepPw_mirror cur tgt speed, stepSv_mirror cur tgt speed⟩

/-! ### Where the tick agent stops -/

theorem updateSv_eq_none_iff (p : SvSlot) : updateSv p = none ↔
    p.currentAngle ≠ p.targetAngle ∧ (p.speed = 0 ∨ p.speed = 6 ∨ p.speed = 7) := by
  unfold updateSv
  by_cases h : p.currentAngle = p.targetAngle
  · simp [settledSv, h]
  · simp [settledSv, h, stepSv_eq_none_iff]

theorem updatePw_eq_none_iff (p : PwSlot) : updatePw p = none ↔
    p.current ≠ p.target ∧ (p.speed = 6 ∨ p.speed = 7) := by
  unfold updatePw
  by_cases h : p.current = p.target
  · simp [settledPw, h]
  · simp [settledPw, h, stepPw_eq_none_iff]

theorem scanSv_cons_eq_none_iff (p : SvSlot) (rest : List SvSlot) :
    scanSv (p :: rest) = none ↔ updateSv p = none ∨ scanSv rest = none := by
  rw [scanSv]
  cases updateSv p <;> cases scanSv rest <;> simp

theorem scanSv_eq_none_iff (l : List SvSlot) : scanSv l = none ↔ ∃ p ∈ l, updateSv p = none := by
  induction l with
  | nil => simp [scanSv]
  | cons p rest ih => rw [scanSv_cons_eq_none_iff, ih]; simp

theorem scanPw_cons_eq_none_iff (p : PwSlot) (rest : List PwSlot) :
    scanPw (p :: rest) = none ↔ updatePw p = none ∨ scanPw rest = none := by
  rw [scanPw]
  cases updatePw p <;> cases scanPw rest <;> simp

theorem scanPw_eq_none_iff (l : List PwSlot) : scanPw l = none ↔ ∃ p ∈ l, updatePw p = none := by
  induction l with
  | nil => simp [scanPw]
  | cons p rest ih => rw [scanPw_cons_eq_none_iff, ih]; simp

/-- A logic tick that does not answer is refused, and that because one of its phases has no value. -/
theorem logicTick_refused_iff (s : State) :
    logicTick s = .refused .stepLawOutsideDomain ↔ scanSv s.sv = none ∨ scanPw s.pw = none := by
  unfold logicTick
  cases scanSv s.sv <;> cases scanPw s.pw <;> simp

theorem logicTick_ne_fault (s : State) (f : Fault) : logicTick s ≠ .fault f := by
  unfold logicTick
  split <;> exact nofun

theorem hwTickOp_fault_iff (s : State) (f : Fault) :
    hwTickOp s = .fault f ↔ f = .dividerZero ∧ s.cfg.tickDiv = 0 := by
  unfold hwTickOp
  split
  · exact ⟨fun h => by cases h; exact ⟨rfl, ‹_›⟩, fun ⟨hf, _⟩ => by rw [hf]⟩
  · refine ⟨fun h => ?_, fun ⟨_, hdiv⟩ => absurd hdiv ‹_›⟩
    split at h
    · exact absurd h (logicTick_ne_fault _ f)
    · cases h

/-- Settles O53: a phase has no value iff some slot's update has none, and a command always answers. -/
theorem ticksStopOnlyOutsideTheLegalDomain : Obligations.TicksStopOnlyOutsideTheLegalDomain := by
  refine ⟨fun s => ⟨?_, logicTick_ne_fault s⟩, hwTickOp_fault_iff, exec_answers⟩
  simp only [logicTick_refused_iff, scanSv_eq_none_iff, scanPw_eq_none_iff, updateSv_eq_none_iff,
    updatePw_eq_none_iff]

end Sys2Proof.Machine
end

section
/-! PROOFS. The tick scheduler's statements (42_tick_scheduler): what a logic tick does to each slot, hardware
ticks counted as the logic ticks among them, and the slots after several logic ticks. -/

namespace Sys2Proof.Machine

open Sys2Proof.Claims

/-! ### One logic tick -/

theorem scanSv_step {l l' : List SvSlot} {e : List Event} (h : scanSv l = some (l', e)) {j : Nat} {p : SvSlot}
    (hp : l[j]? = some p) : ∃ nxt, stepSv p.currentAngle p.targetAngle p.speed = some nxt ∧
      l'[j]? = some { p with currentAngle := nxt } := by
  obtain ⟨q, _, hu, hq⟩ := (scanSv_getElem? h j).1 p hp
  obtain ⟨nxt, hnxt, rfl, _⟩ := updateSv_cases hu
  exact ⟨nxt, hnxt, hq⟩

theorem scanPw_step {l l' : List PwSlot} {e : List Event} (h : scanPw l = some (l', e)) {j : Nat} {p : PwSlot}
    (hp : l[j]? = some p) : ∃ nxt, stepPw p.current p.target p.speed = some nxt ∧
      l'[j]? = some { p with current := nxt } := by
  obtain ⟨q, _, hu, hq⟩ := (scanPw_getElem? h j).1 p hp
  obtain ⟨nxt, hnxt, rfl, _⟩ := updatePw_cases hu
  exact ⟨nxt, hnxt, hq⟩

/-- Settles O35: each phase is pointwise, and under the invariant both phases have a value. -/
theorem logicTickUpdatesEverySlotOnce : Obligations.LogicTickUpdatesEverySlotOnce := by
  intro s hs
  obtain ⟨_, _, _, hpwOk, hsvOk, _⟩ := hs
  obtain ⟨t, ht⟩ := logicTick_answers hpwOk hsvOk
  obtain ⟨sv', e1, pw', e2, hsv, hpw, rfl⟩ := logicTick_cases ht
  refine ⟨_, ht, scanSv_length hsv, List.length_map _, scanPw_length hpw, fun _ _ => scanSv_step hsv,
    fun j p hp => ?_, fun _ _ => scanPw_step hpw, ?_⟩
  · simp only [List.getElem?_map, hp, Option.map_some, Option.some.injEq]
    exact ⟨latchSw_inactive, latchSw_edge, latchSw_held⟩
  · simp only [scanSv_events hsv, scanPw_events hpw]

/-- Settles O37: each phase of an empty table is empty. -/
theorem logicTickOfEmptyTablesDoesNothing : Obligations.LogicTickOfEmptyTablesDoesNothing := by
  have hempty (s : State) (hpw : s.pw = []) (hsv : s.sv = []) (hsw : s.sw = []) : logicTick s = .next s := by
    have hsv' : scanSv s.sv = some (s.sv, []) := by rw [hsv, scanSv]
    have hpw' : scanPw s.pw = some (s.pw, []) := by rw [hpw, scanPw]
    have hsw' : s.sw.map (latchSw s.lines s.now) = s.sw := by rw [hsw, List.map_nil]
    rw [logicTick_of_scans hsv' hpw', hsw', List.append_nil, List.append_nil]
  exact ⟨hempty, hempty State.reset rfl rfl rfl⟩

/-- Settles O38: a detached slot is settled (R43), so its update changes and emits nothing. -/
theorem detachedServoIsLeftAlone : Obligations.DetachedServoIsLeftAlone := by
  intro s t j p hs hp hdet h
  obtain ⟨_, _, _, _, hsvOk, _⟩ := hs
  obtain ⟨_, _, _, hsettles⟩ := hsvOk p (List.mem_of_getElem? hp)
  have hset := hsettles hdet
  refine ⟨?_, if_pos hset⟩
  rcases (tickMove_cases h).2 with ⟨_, rfl⟩ | ⟨_, sv', _, _, _, hsv, _, rfl⟩
  · exact hp
  · obtain ⟨q, _, hu, hq⟩ := (scanSv_getElem? hsv j).1 p hp
    rwa [updateSv_settled hu ((settledSv_iff p).mpr hset)] at hq

/-- Settles O52: no agent's move stops, and the tick leaves no response. -/
theorem noStepStopsUnderTheInvariant : Obligations.NoStepStopsUnderTheInvariant := by
  intro s hs
  obtain ⟨t, ht⟩ := tickMove_answers hs
  exact ⟨step_answers hs, t, ht, (tickMove_port ht).2⟩

/-! ### One hardware tick -/

/-- The state with the divider at `n`. -/
def countAt (n : Nat) (s : State) : State := { s with tickCount := n }

theorem hwTickOp_of_last {s : State} (hdiv : 1 ≤ s.cfg.tickDiv) (h : s.tickCount = s.cfg.tickDiv - 1) :
    hwTickOp s = logicTick (countAt 0 s) := by
  rw [hwTickOp, if_neg (Nat.ne_of_gt hdiv), if_pos h, countAt]

theorem hwTickOp_of_early {s : State} (h : s.tickCount < s.cfg.tickDiv - 1) :
    hwTickOp s = .next (countAt (s.tickCount + 1) s) := by
  rw [hwTickOp, if_neg (by omega), if_neg (by omega), countAt]

/-- A logic tick changes the block as the hardware tick that performs it does, but for the divider. -/
theorem logicTick_blockStep {s t : State} (h : logicTick s = .next t) (hdiv : 1 ≤ s.cfg.tickDiv) :
    BlockStep s t := by
  obtain ⟨sv', e1, pw', e2, hsv, hpw, rfl⟩ := logicTick_cases h
  have htick : tickMove (countAt (s.cfg.tickDiv - 1) s) = .next { s with
      hwTick := false, rsp := none, tickCount := 0, sv := sv', pw := pw',
      sw := s.sw.map (latchSw s.lines s.now), trace := s.trace ++ e1 ++ e2 } :=
    (hwTickOp_of_last (s := { s with tickCount := s.cfg.tickDiv - 1, hwTick := false, rsp := none }) hdiv
      rfl).trans (logicTick_of_scans hsv hpw)
  have hb := tickMove_blockStep htick
  exact ⟨rfl, hb.pw, hb.sv, hb.sw, .inl rfl, hb.trace⟩

theorem logicTick_inv {s t : State} (h : logicTick s = .next t) (hs : s.Inv) : t.Inv :=
  (logicTick_blockStep h (tickDiv_pos hs.1)).inv hs

/-! ### Ticks one after the other -/

/-- The transition `f` after the outcome `r`; a stop stays. -/
def andThen (r : Result) (f : State → Result) : Result :=
  match r with
  | .next t => f t
  | .fault e => .fault e
  | .refused e => .refused e

@[simp] theorem andThen_next (t : State) (f : State → Result) : andThen (.next t) f = f t := rfl

theorem andThen_assoc (r : Result) (f g : State → Result) :
    andThen (andThen r f) g = andThen r fun t => andThen (f t) g := by
  cases r <;> rfl

theorem andThen_congr {r : Result} {f g : State → Result} (h : ∀ t, r = .next t → f t = g t) :
    andThen r f = andThen r g := by
  cases r with
  | next t => exact h t rfl
  | fault _ => rfl
  | refused _ => rfl

theorem andThen_next_self (r : Result) : andThen r .next = r := by cases r <;> rfl

theorem hwTicks_succ (k : Nat) (s : State) : hwTicks (k + 1) s = andThen (hwTickOp s) (hwTicks k) := rfl

theorem logicTicks_succ (k : Nat) (s : State) :
    logicTicks (k + 1) s = andThen (logicTick s) (logicTicks k) := rfl

/-- A logic tick neither reads nor writes the divider. -/
theorem logicTick_countAt (n : Nat) (s : State) :
    logicTick (countAt n s) = andThen (logicTick s) fun t => .next (countAt n t) := by
  unfold logicTick countAt
  cases scanSv s.sv <;> cases scanPw s.pw <;> rfl

theorem logicTicks_countAt (k n : Nat) (s : State) :
    logicTicks k (countAt n s) = andThen (logicTicks k s) fun t => .next (countAt n t) := by
  induction k generalizing s with
  | zero => rfl
  | succ k ih => simp only [logicTicks_succ, logicTick_countAt, andThen_assoc, andThen_next, ih]

theorem logicTick_cfg_tickCount {s t : State} (h : logicTick s = .next t) :
    t.cfg = s.cfg ∧ t.tickCount = s.tickCount := by
  obtain ⟨_, _, _, _, _, _, rfl⟩ := logicTick_cases h
  exact ⟨rfl, rfl⟩

/-! ### The divider -/

/-- R151: `m` hardware ticks are the logic ticks that the divider reaches in them, and leave the divider at
the remainder. -/
theorem hwTicks_eq_logicTicks (m : Nat) {s : State} (h : s.tickCount < s.cfg.tickDiv) :
    hwTicks m s = andThen (logicTicks ((s.tickCount + m) / s.cfg.tickDiv) s) fun t =>
      .next (countAt ((s.tickCount + m) % s.cfg.tickDiv) t) := by
  induction m generalizing s with
  | zero => rw [Nat.add_zero, Nat.div_eq_of_lt h, Nat.mod_eq_of_lt h]; rfl
  | succ m ih =>
    rw [hwTicks_succ]
    by_cases hlast : s.tickCount = s.cfg.tickDiv - 1
    · have hsum : s.tickCount + (m + 1) = m + s.cfg.tickDiv := by omega
      rw [hsum, Nat.add_div_right _ (by omega), Nat.add_mod_right, logicTicks_succ,
        hwTickOp_of_last (by omega) hlast, logicTick_countAt, andThen_assoc, andThen_assoc]
      refine andThen_congr fun t ht => ?_
      obtain ⟨hcfg, _⟩ := logicTick_cfg_tickCount ht
      have hstart : (countAt 0 t).tickCount < (countAt 0 t).cfg.tickDiv := by
        simp only [countAt, hcfg]; omega
      rw [andThen_next, ih hstart, logicTicks_countAt, andThen_assoc]
      simp only [countAt, andThen_next, hcfg, Nat.zero_add]
    · have hnext : (countAt (s.tickCount + 1) s).tickCount < (countAt (s.tickCount + 1) s).cfg.tickDiv := by
        simp only [countAt]; omega
      rw [hwTickOp_of_early (by omega), andThen_next, ih hnext, logicTicks_countAt, andThen_assoc]
      simp only [countAt, andThen_next, Nat.add_right_comm s.tickCount 1 m, Nat.add_assoc]

/-- From any phase, `TICK_DIV` hardware ticks are one logic tick. -/
theorem hwTicks_tickDiv {s : State} (h : s.tickCount < s.cfg.tickDiv) :
    hwTicks s.cfg.tickDiv s = logicTick s := by
  rw [hwTicks_eq_logicTicks _ h, Nat.add_div_right _ (by omega), Nat.div_eq_of_lt h, Nat.add_mod_right,
    Nat.mod_eq_of_lt h, logicTicks_succ, andThen_assoc]
  refine (andThen_congr fun t ht => ?_).trans (andThen_next_self (logicTick s))
  obtain ⟨_, hcount⟩ := logicTick_cfg_tickCount ht
  rw [← hcount]
  rfl

theorem hwTicks_of_lt {s : State} {k : Nat} (h : s.tickCount + k < s.cfg.tickDiv) :
    hwTicks k s = .next (countAt (s.tickCount + k) s) := by
  rw [hwTicks_eq_logicTicks k (by omega), Nat.div_eq_of_lt h, Nat.mod_eq_of_lt h]
  rfl

/-- Settles O34: a strobe's step is the tick agent's move, and hardware ticks are counted by their logic
ticks. -/
theorem oneLogicTickPerDivisorTicks : Obligations.OneLogicTickPerDivisorTicks := by
  refine ⟨fun s hrst htick hfirst => ?_, fun _ => rfl, fun _ => hwTickOp_of_last, fun _ => hwTickOp_of_early,
    fun _ => hwTicks_tickDiv, fun _ _ => hwTicks_of_lt⟩
  rw [← or_assoc, ← acceptable_none] at hfirst
  exact step_of_tick hrst htick hfirst

/-! ### Settling -/

/-- Each of `k` logic ticks applies the step law once to every slot (R152, R159). -/
theorem logicTicks_ramps (k : Nat) {s : State} (hs : s.Inv) : ∃ t, logicTicks k s = .next t ∧
    (∀ (j : Nat) (p : PwSlot), s.pw[j]? = some p →
      ∃ v, rampPw p.target p.speed k p.current = some v ∧ t.pw[j]? = some { p with current := v }) ∧
    (∀ (j : Nat) (p : SvSlot), s.sv[j]? = some p →
      ∃ v, rampSv p.targetAngle p.speed k p.currentAngle = some v ∧
        t.sv[j]? = some { p with currentAngle := v }) := by
  induction k generalizing s with
  | zero => exact ⟨s, rfl, fun _ p hp => ⟨p.current, rfl, hp⟩, fun _ p hp => ⟨p.currentAngle, rfl, hp⟩⟩
  | succ k ih =>
    obtain ⟨t, ht, _, _, _, hsv, _, hpw, _⟩ := logicTickUpdatesEverySlotOnce s hs
    obtain ⟨u, hu, hpwRamp, hsvRamp⟩ := ih (logicTick_inv ht hs)
    refine ⟨u, by rw [logicTicks_succ, ht, andThen_next, hu], fun j p hp => ?_, fun j p hp => ?_⟩
    · obtain ⟨nxt, hstep, hq⟩ := hpw j p hp
      obtain ⟨v, hv, hr⟩ := hpwRamp j _ hq
      exact ⟨v, by rw [rampPw, hstep, Option.bind_some, hv], hr⟩
    · obtain ⟨nxt, hstep, hq⟩ := hsv j p hp
      obtain ⟨v, hv, hr⟩ := hsvRamp j _ hq
      exact ⟨v, by rw [rampSv, hstep, Option.bind_some, hv], hr⟩

theorem countPw_pos {cur tgt : Level} {speed : SpeedCode} (h : cur ≠ tgt) (h5 : speed.toNat ≤ 5) :
    0 < countPw cur tgt speed := by
  obtain ⟨nxt, _, hmove⟩ := stepPw_movesBy h h5
  rw [countPw_of_movesBy hmove]
  exact Nat.succ_pos _

theorem countSv_pos {cur tgt : Angle} {speed : SpeedCode} (h : cur ≠ tgt) (h1 : 1 ≤ speed.toNat)
    (h5 : speed.toNat ≤ 5) : 0 < countSv cur tgt speed := by
  obtain ⟨nxt, _, hmove⟩ := stepSv_movesBy h h1 h5
  rw [countSv_of_movesBy hmove]
  exact Nat.succ_pos _

/-- The `n`-th logic tick is in hardware tick `(d - c) + (n - 1) * d` from the phase `c` (R159). -/
theorem le_ticks_div_iff {c d n m : Nat} (hc : c < d) (hn : 0 < n) :
    n ≤ (c + m) / d ↔ (d - c) + (n - 1) * d ≤ m := by
  obtain ⟨k, rfl⟩ := Nat.exists_eq_succ_of_ne_zero hn.ne'
  rw [Nat.le_div_iff_mul_le (by omega), Nat.succ_mul, Nat.succ_sub_one]
  omega

/-- Settles O41: the hardware ticks are counted by their logic ticks, and a channel's logic ticks by R140. -/
theorem channelSettlesInTheCountedHardwareTick : Obligations.ChannelSettlesInTheCountedHardwareTick := by
  intro s m hs
  obtain ⟨t, ht, hpw, hsv⟩ := logicTicks_ramps ((s.tickCount + m) / s.cfg.tickDiv) hs
  obtain ⟨_, _, hcount, hpwOk, hsvOk, _⟩ := hs
  obtain ⟨convergePw, convergeSv⟩ := rampsConvergeInTheCountedApplications
  refine ⟨_, by rw [hwTicks_eq_logicTicks m hcount, ht, andThen_next], fun j p hp hne => ?_,
    fun j p hp hne => ?_⟩
  · have h5 := hpwOk p (List.mem_of_getElem? hp)
    obtain ⟨v, hv, hq⟩ := hpw j p hp
    obtain ⟨v', hv', hiff⟩ := convergePw p.current p.target p.speed h5 ((s.tickCount + m) / s.cfg.tickDiv)
    cases hv.symm.trans hv'
    exact ⟨_, hq, hiff.trans (le_ticks_div_iff hcount (countPw_pos hne h5))⟩
  · obtain ⟨⟨h1, h5⟩, _⟩ := hsvOk p (List.mem_of_getElem? hp)
    obtain ⟨v, hv, hq⟩ := hsv j p hp
    obtain ⟨v', hv', hiff⟩ := convergeSv p.currentAngle p.targetAngle p.speed h1 h5
      ((s.tickCount + m) / s.cfg.tickDiv)
    cases hv.symm.trans hv'
    exact ⟨_, hq, hiff.trans (le_ticks_div_iff hcount (countSv_pos hne h1 h5))⟩

end Sys2Proof.Machine
end

section
/-! PROOFS. The motion commands' statements (43_motion_commands): the words of their rows, and each command's
whole next state on an unregistered channel, at an illegal operand and at legal ones. -/

namespace Sys2Proof.Machine

open Sys2Proof.Claims

/-! ### The answers -/

theorem raise_invalidChannel (s : State) : raise .invalidChannel s = rejected s 0x20000000#32 :=
  raise_eq_rejected rfl s

theorem raise_invalidSpeed (s : State) : raise .invalidSpeed s = rejected s 0x30000000#32 :=
  raise_eq_rejected rfl s

theorem raise_invalidValue (s : State) : raise .invalidValue s = rejected s 0x40000000#32 :=
  raise_eq_rejected rfl s

/-! ### The operands -/

theorem selectPw_of_length_le {ch : ChanId} {s : State} (h : s.pw.length ≤ ch.toNat) : selectPw ch s = none :=
  List.getElem?_eq_none h

theorem selectSv_of_length_le {ch : ChanId} {s : State} (h : s.sv.length ≤ ch.toNat) : selectSv ch s = none :=
  List.getElem?_eq_none h

theorem not_speedLegal {speed : SpeedCode} (h : speed.toNat < 1 ∨ 5 < speed.toNat) :
    ¬ speedLegal speed = true := by
  rw [speedLegal_iff]; omega

theorem not_angleLegal {cfg : Config} {angle : Angle} (h : cfg.svAngleMax.toNat < angle.toNat) :
    ¬ angleLegal cfg angle = true := by
  rw [angleLegal_iff]; omega

/-! ### The pulse-width commands (R171, R172) -/

section PulseWidth

variable {s : State} {ch : ChanId} {p : PwSlot} (value : Level) {speed : SpeedCode}

theorem exec_pwSet_of_unregistered (hlen : s.pw.length ≤ ch.toNat) :
    exec (.pwSet ch value) s = .next (raise .invalidChannel s) := by
  simp only [exec, execPwSet, selectPw_of_length_le hlen]

theorem exec_pwSet_of_slot (hp : s.pw[ch.toNat]? = some p) :
    exec (.pwSet ch value) s = .next (respond .ok 0 (writePw ch { p with target := value } s)) := by
  simp only [exec, execPwSet, selectPw_eq, hp]

theorem exec_pwFade_of_unregistered (hlen : s.pw.length ≤ ch.toNat) :
    exec (.pwFade ch value speed) s = .next (raise .invalidChannel s) := by
  simp only [exec, execPwFade, selectPw_of_length_le hlen]

theorem exec_pwFade_of_slot (hp : s.pw[ch.toNat]? = some p) :
    exec (.pwFade ch value speed) s =
      if speedLegal speed then
        .next (respond .ok 0 (writePw ch { p with target := value, speed := speed } s))
      else .next (raise .invalidSpeed s) := by
  simp only [exec, execPwFade, selectPw_eq, hp]

end PulseWidth

/-- Settles O2: the channel is checked first, then PW.FADE's speed. -/
theorem pulseWidthCommandsWriteTargetAndSpeedOnly :
    Obligations.PulseWidthCommandsWriteTargetAndSpeedOnly := by
  refine ⟨fun w => decode_of_row (r := rows[3]) (List.getElem_mem _),
    fun w => decode_of_row (r := rows[5]) (List.getElem_mem _),
    fun s ch value speed => ⟨fun hlen => ?_, fun p hp => ⟨?_, fun hbad => ?_, fun h1 h5 => ?_⟩⟩⟩
  · rw [exec_pwSet_of_unregistered value hlen, exec_pwFade_of_unregistered value hlen, raise_invalidChannel]
    exact ⟨rfl, rfl⟩
  · exact exec_pwSet_of_slot value hp
  · rw [exec_pwFade_of_slot value hp, if_neg (not_speedLegal hbad), raise_invalidSpeed]
  · rw [exec_pwFade_of_slot value hp, if_pos ((speedLegal_iff speed).mpr ⟨h1, h5⟩)]; rfl

/-! ### The servo moves (R174, R175) -/

/-- The whole next state of an accepted move: the event of the re-attach depends on the flag, nothing else
does (R174, 90 C8). -/
theorem respond_writeSv_emitAttach (ch : ChanId) (p q : SvSlot) (s : State) :
    respond .ok 0 (writeSv ch q (emitAttach p s)) =
      { answered s 0 with
        sv := s.sv.set ch.toNat q,
        trace := s.trace ++ if p.attached then [] else [.svAttach p.pin] } := by
  unfold emitAttach
  split
  · rw [List.append_nil]; rfl
  · rfl

section ServoMoves

variable {s : State} {ch : ChanId} {p : SvSlot} (angle : Angle) (speed : SpeedCode)

theorem exec_svMove_of_unregistered (hlen : s.sv.length ≤ ch.toNat) :
    exec (.svMove ch angle) s = .next (raise .invalidChannel s) := by
  simp only [exec, execSvMove, selectSv_of_length_le hlen]

theorem exec_svMove_of_slot (hp : s.sv[ch.toNat]? = some p) :
    exec (.svMove ch angle) s =
      if angleLegal s.cfg angle then
        .next (respond .ok 0
          (writeSv ch { p with attached := true, targetAngle := angle } (emitAttach p s)))
      else .next (raise .invalidValue s) := by
  simp only [exec, execSvMove, selectSv_eq, hp]

theorem exec_svMoves_of_unregistered (hlen : s.sv.length ≤ ch.toNat) :
    exec (.svMoves ch angle speed) s = .next (raise .invalidChannel s) := by
  simp only [exec, execSvMoves, selectSv_of_length_le hlen]

theorem exec_svMoves_of_slot (hp : s.sv[ch.toNat]? = some p) :
    exec (.svMoves ch angle speed) s =
      if speedLegal speed then
        if angleLegal s.cfg angle then
          .next (respond .ok 0
            (writeSv ch { p with attached := true, targetAngle := angle, speed := speed } (emitAttach p s)))
        else .next (raise .invalidValue s)
      else .next (raise .invalidSpeed s) := by
  simp only [exec, execSvMoves, selectSv_eq, hp]

end ServoMoves

/-- Settles O3: the channel is checked first, then SV.MOVES's speed, then the angle. -/
theorem servoMovesAttachAndSetTarget : Obligations.ServoMovesAttachAndSetTarget := by
  refine ⟨fun w => decode_of_row (r := rows[4]) (List.getElem_mem _),
    fun w => decode_of_row (r := rows[6]) (List.getElem_mem _),
    fun s ch angle speed => ⟨fun hlen => ?_, fun p hp => ⟨fun hover => ?_, fun hle => ?_, fun hbad => ?_,
      fun h1 h5 hover => ?_, fun h1 h5 hle => ?_⟩⟩⟩
  · rw [exec_svMove_of_unregistered angle hlen, exec_svMoves_of_unregistered angle speed hlen,
      raise_invalidChannel]
    exact ⟨rfl, rfl⟩
  · rw [exec_svMove_of_slot angle hp, if_neg (not_angleLegal hover), raise_invalidValue]
  · rw [exec_svMove_of_slot angle hp, if_pos ((angleLegal_iff _ _).mpr hle), respond_writeSv_emitAttach]
  · rw [exec_svMoves_of_slot angle speed hp, if_neg (not_speedLegal hbad), raise_invalidSpeed]
  · rw [exec_svMoves_of_slot angle speed hp, if_pos ((speedLegal_iff speed).mpr ⟨h1, h5⟩),
      if_neg (not_angleLegal hover), raise_invalidValue]
  · rw [exec_svMoves_of_slot angle speed hp, if_pos ((speedLegal_iff speed).mpr ⟨h1, h5⟩),
      if_pos ((angleLegal_iff _ _).mpr hle), respond_writeSv_emitAttach]

/-! ### The rest (R177) -/

section Rest

variable {s : State} {ch : ChanId} {p : SvSlot}

theorem exec_svRest_of_unregistered (hlen : s.sv.length ≤ ch.toNat) :
    exec (.svRest ch) s = .next (raise .invalidChannel s) := by
  simp only [exec, execSvRest, selectSv_of_length_le hlen]

theorem held_svRest_of_slot (hp : s.sv[ch.toNat]? = some p) : held (.svRest ch) s = !settledSv p := by
  simp only [held, selectSv_eq, hp]

theorem exec_svRest_of_settled (hp : s.sv[ch.toNat]? = some p) (hs : settledSv p = true) :
    exec (.svRest ch) s =
      if p.attached then
        .next (respond .ok 0 (emit (.svDetach p.pin) (writeSv ch { p with attached := false } s)))
      else .next (respond .ok 0 s) := by
  simp only [exec, execSvRest, selectSv_eq, hp, hs, if_true]

/-- Detaching a detached slot writes what the slot holds. -/
theorem set_detached_self (hp : s.sv[ch.toNat]? = some p) (hd : p.attached = false) :
    s.sv.set ch.toNat { p with attached := false } = s.sv := by
  obtain ⟨hlt, rfl⟩ := List.getElem?_eq_some_iff.mp hp
  rw [← hd]
  exact List.set_getElem_self hlt

end Rest

/-- Settles O4: an unsettled rest is a held command; a settled one writes the slot and the event if it was
attached, and what the block already holds if it was not. -/
theorem restDetachesOnceSettled : Obligations.RestDetachesOnceSettled := by
  refine ⟨fun w => decode_of_row (r := rows[15]) (List.getElem_mem _),
    fun s ch => ⟨fun hlen => ?_, fun p hp => ⟨fun hmoving => ?_, fun hsettled => ?_⟩⟩⟩
  · rw [exec_svRest_of_unregistered hlen, raise_invalidChannel]
  · have hheld : held (.svRest ch) s = true := by
      rwa [held_svRest_of_slot hp, Bool.not_eq_true', ← Bool.not_eq_true, settledSv_iff]
    exact exec_of_held hheld
  · rw [exec_svRest_of_settled hp ((settledSv_iff p).mpr hsettled)]
    cases hd : p.attached with
    | true => rfl
    | false => simp only [set_detached_self hp hd, Bool.false_eq_true, if_false, List.append_nil]; rfl

end Sys2Proof.Machine
end

section
/-! PROOFS. The query commands' statements (44_query_commands): each command's whole next state on an
unregistered and on a registered channel, which commands are held and when (R190), what lifts a hold, and
after how many logic ticks. -/

namespace Sys2Proof.Machine

open Sys2Proof.Claims

/-! ### The answers and the operands -/

theorem respond_ok_zero (s : State) : respond .ok 0 s = answered s 0 := rfl

theorem holdCommand_eq_waiting (s : State) : holdCommand s = waiting s := rfl

/-- A truth value's answer, in the words of the condition it decides (R97). -/
theorem respond_truthData {b : Bool} {P : Prop} [Decidable P] (h : b = true ↔ P) (s : State) :
    respond .ok (truthData b) s = answered s (if P then 1 else 0) := by
  by_cases hP : P
  · rw [if_pos hP, h.mpr hP]; rfl
  · rw [if_neg hP, Bool.eq_false_of_not_eq_true (mt h.mp hP)]; rfl

theorem selectSw_of_length_le {ch : ChanId} {s : State} (h : s.sw.length ≤ ch.toNat) : selectSw ch s = none :=
  List.getElem?_eq_none h

/-! ### The settled queries (R191 to R194) -/

section Settled

variable {s : State} {ch : ChanId}

theorem exec_pwSettled_of_unregistered (hlen : s.pw.length ≤ ch.toNat) :
    exec (.pwSettled ch) s = .next (raise .invalidChannel s) := by
  simp only [exec, execPwSettled, selectPw_of_length_le hlen]

theorem exec_svSettled_of_unregistered (hlen : s.sv.length ≤ ch.toNat) :
    exec (.svSettled ch) s = .next (raise .invalidChannel s) := by
  simp only [exec, execSvSettled, selectSv_of_length_le hlen]

theorem exec_pwSettled_of_slot {p : PwSlot} (hp : s.pw[ch.toNat]? = some p) :
    exec (.pwSettled ch) s = .next (answered s (if p.current = p.target then 1 else 0)) := by
  simp only [exec, execPwSettled, selectPw_eq, hp, respond_truthData (settledPw_iff p)]

theorem exec_svSettled_of_slot {p : SvSlot} (hp : s.sv[ch.toNat]? = some p) :
    exec (.svSettled ch) s = .next (answered s (if p.currentAngle = p.targetAngle then 1 else 0)) := by
  simp only [exec, execSvSettled, selectSv_eq, hp, respond_truthData (settledSv_iff p)]

theorem exec_pwAllset (s : State) :
    exec .pwAllset s = .next (answered s (if ∀ p ∈ s.pw, p.current = p.target then 1 else 0)) := by
  simp only [exec, execPwAllset, respond_truthData (allsetPw_iff s)]

theorem exec_svAllset (s : State) :
    exec .svAllset s = .next (answered s (if ∀ p ∈ s.sv, p.currentAngle = p.targetAngle then 1 else 0)) := by
  simp only [exec, execSvAllset, respond_truthData (allsetSv_iff s)]

end Settled

/-- Settles O5: the channel is checked first, then the slot's two values are compared. -/
theorem settledQueriesCompareCurrentWithTarget : Obligations.SettledQueriesCompareCurrentWithTarget := by
  refine ⟨fun w => decode_of_row (r := rows[7]) (List.getElem_mem _),
    fun w => decode_of_row (r := rows[8]) (List.getElem_mem _),
    fun s ch => ⟨fun hlen => ?_, fun p => exec_pwSettled_of_slot, fun hlen => ?_,
      fun p => exec_svSettled_of_slot⟩⟩
  · rw [exec_pwSettled_of_unregistered hlen, raise_invalidChannel]
  · rw [exec_svSettled_of_unregistered hlen, raise_invalidChannel]

/-- Settles O6: the two scans, on each side of their condition. -/
theorem allsetQueriesScanRegisteredSlots : Obligations.AllsetQueriesScanRegisteredSlots := by
  refine ⟨fun w => decode_of_row (r := rows[9]) (List.getElem_mem _),
    fun w => decode_of_row (r := rows[10]) (List.getElem_mem _),
    fun s => ⟨fun hall => ?_, fun hsome => ?_, fun hall => ?_, fun hsome => ?_⟩⟩
  · rw [exec_pwAllset, if_pos hall]
  · rw [exec_pwAllset, if_neg (by simpa using hsome)]
  · rw [exec_svAllset, if_pos hall]
  · rw [exec_svAllset, if_neg (by simpa using hsome)]

/-! ### The waits (R195 to R198) -/

section Waits

variable {s : State} {ch : ChanId}

theorem exec_pwWait_of_unregistered (hlen : s.pw.length ≤ ch.toNat) :
    exec (.pwWait ch) s = .next (raise .invalidChannel s) := by
  simp only [exec, execPwWait, selectPw_of_length_le hlen]

theorem exec_svWait_of_unregistered (hlen : s.sv.length ≤ ch.toNat) :
    exec (.svWait ch) s = .next (raise .invalidChannel s) := by
  simp only [exec, execSvWait, selectSv_of_length_le hlen]

theorem exec_pwWait_of_slot {p : PwSlot} (hp : s.pw[ch.toNat]? = some p) :
    exec (.pwWait ch) s = if p.current = p.target then .next (answered s 0) else .next (waiting s) := by
  simp only [exec, execPwWait, selectPw_eq, hp, settledPw_iff, respond_ok_zero, holdCommand_eq_waiting]

theorem exec_svWait_of_slot {p : SvSlot} (hp : s.sv[ch.toNat]? = some p) :
    exec (.svWait ch) s =
      if p.currentAngle = p.targetAngle then .next (answered s 0) else .next (waiting s) := by
  simp only [exec, execSvWait, selectSv_eq, hp, settledSv_iff, respond_ok_zero, holdCommand_eq_waiting]

theorem exec_pwWaitall (s : State) :
    exec .pwWaitall s =
      if ∀ p ∈ s.pw, p.current = p.target then .next (answered s 0) else .next (waiting s) := by
  simp only [exec, execPwWaitall, allsetPw_iff, respond_ok_zero, holdCommand_eq_waiting]

theorem exec_svWaitall (s : State) :
    exec .svWaitall s =
      if ∀ p ∈ s.sv, p.currentAngle = p.targetAngle then .next (answered s 0) else .next (waiting s) := by
  simp only [exec, execSvWaitall, allsetSv_iff, respond_ok_zero, holdCommand_eq_waiting]

end Waits

/-- Settles O7: the channel is checked first, then the wait answers or holds. -/
theorem waitsHoldUntilTheChannelIsSettled : Obligations.WaitsHoldUntilTheChannelIsSettled := by
  refine ⟨fun w => decode_of_row (r := rows[11]) (List.getElem_mem _),
    fun w => decode_of_row (r := rows[12]) (List.getElem_mem _),
    fun s ch => ⟨fun hlen => ?_, fun p hp => ⟨fun hset => ?_, fun hmoving => ?_⟩, fun hlen => ?_,
      fun p hp => ⟨fun hset => ?_, fun hmoving => ?_⟩⟩⟩
  · rw [exec_pwWait_of_unregistered hlen, raise_invalidChannel]
  · rw [exec_pwWait_of_slot hp, if_pos hset]
  · rw [exec_pwWait_of_slot hp, if_neg hmoving]
  · rw [exec_svWait_of_unregistered hlen, raise_invalidChannel]
  · rw [exec_svWait_of_slot hp, if_pos hset]
  · rw [exec_svWait_of_slot hp, if_neg hmoving]

/-- Settles O8: the two scans, on each side of their condition. -/
theorem waitallHoldsUntilEverySlotIsSettled : Obligations.WaitallHoldsUntilEverySlotIsSettled := by
  refine ⟨fun w => decode_of_row (r := rows[13]) (List.getElem_mem _),
    fun w => decode_of_row (r := rows[14]) (List.getElem_mem _),
    fun s => ⟨fun hall => ?_, fun hsome => ?_, fun hall => ?_, fun hsome => ?_⟩⟩
  · rw [exec_pwWaitall, if_pos hall]
  · rw [exec_pwWaitall, if_neg (by simpa using hsome)]
  · rw [exec_svWaitall, if_pos hall]
  · rw [exec_svWaitall, if_neg (by simpa using hsome)]

/-! ### The switch query (R202) -/

theorem exec_swActive_of_unregistered {ch : ChanId} {s : State} (hlen : s.sw.length ≤ ch.toNat)
    (hold : HoldMs) : exec (.swActive ch hold) s = .next (raise .invalidChannel s) := by
  simp only [exec, execSwActive, selectSw_of_length_le hlen]

/-- The switch query's condition as a comparison of words of the clock's width (R200, R202). -/
theorem switchActive_iff_le (now : Time) (hold : HoldMs) (p : SwSlot) :
    switchActive now hold p = true ↔ p.latched = true ∧ hold.setWidth 32 ≤ now - p.pressTs := by
  rw [switchActive_iff, heldMs, BitVec.le_def, BitVec.toNat_setWidth_of_le (by decide)]

/-- Settles O9: the channel is checked first, then the latch and the held time. -/
theorem switchQueryTestsLatchAndHoldTime : Obligations.SwitchQueryTestsLatchAndHoldTime := by
  refine ⟨fun w => decode_of_row (r := rows[16]) (List.getElem_mem _),
    fun s ch hold => ⟨fun hlen => ?_, fun p hp => ?_⟩⟩
  · rw [exec_swActive_of_unregistered hlen, raise_invalidChannel]
  · rw [exec_swActive_of_slot hp, respond_truthData (switchActive_iff_le s.now hold p)]

/-! ### Which commands are held (R190) -/

section Held

variable {s : State} {ch : ChanId}

theorem held_pwWait_of_slot {p : PwSlot} (hp : s.pw[ch.toNat]? = some p) :
    held (.pwWait ch) s = !settledPw p := by
  simp only [held, selectPw_eq, hp]

/-- The two servo commands that hold on a channel have one condition (R177, R196). -/
theorem held_svWait (ch : ChanId) (s : State) : held (.svWait ch) s = held (.svRest ch) s := rfl

theorem held_pwWait_iff :
    held (.pwWait ch) s = true ↔ ∃ p, s.pw[ch.toNat]? = some p ∧ p.current ≠ p.target := by
  cases hp : s.pw[ch.toNat]? with
  | none => simp [held, selectPw_eq, hp]
  | some p => simp [held_pwWait_of_slot hp, settledPw]

theorem held_svRest_iff :
    held (.svRest ch) s = true ↔ ∃ p, s.sv[ch.toNat]? = some p ∧ p.currentAngle ≠ p.targetAngle := by
  cases hp : s.sv[ch.toNat]? with
  | none => simp [held, selectSv_eq, hp]
  | some p => simp [held_svRest_of_slot hp, settledSv]

theorem held_pwWaitall (s : State) : held .pwWaitall s = !allsetPw s := rfl

theorem held_svWaitall (s : State) : held .svWaitall s = !allsetSv s := rfl

theorem held_pwWaitall_iff : held .pwWaitall s = true ↔ ∃ p ∈ s.pw, p.current ≠ p.target := by
  simp [held_pwWaitall, allsetPw, settledPw]

theorem held_svWaitall_iff : held .svWaitall s = true ↔ ∃ p ∈ s.sv, p.currentAngle ≠ p.targetAngle := by
  simp [held_svWaitall, allsetSv, settledSv]

/-- A command is held exactly when it is a holding command whose condition is false. -/
theorem held_iff_conditionFalse (i : Instr) (s : State) : held i s = true ↔ ConditionFalse i s := by
  cases i with
  | pwWait ch => simp [ConditionFalse, held_pwWait_iff]
  | svWait ch => simp [ConditionFalse, held_svWait, held_svRest_iff]
  | svRest ch => simp [ConditionFalse, held_svRest_iff]
  | pwWaitall => simp [ConditionFalse, held_pwWaitall_iff]
  | svWaitall => simp [ConditionFalse, held_svWaitall_iff]
  | _ => simp [ConditionFalse, held]

end Held

/-! ### The port of a held command (R34, R190) -/

theorem wordReady_eq_false_iff (w : Word) (s : State) :
    wordReady w s = false ↔ ∃ i, decode w = .ok i ∧ held i s = true := by
  unfold wordReady
  cases decode w <;> simp

theorem cmdReady_eq_false_iff (s : State) :
    cmdReady s = false ↔ ∃ w, s.cmd = some w ∧ wordReady w s = false := by
  unfold cmdReady
  cases s.cmd <;> simp

theorem cmdReady_of_cmd {s : State} {w : Word} (h : s.cmd = some w) : cmdReady s = wordReady w s := by
  simp only [cmdReady, h]

/-- Whether the port is ready is read from the word and the two tables of channels that move (R34). -/
theorem cmdReady_congr {s t : State} (hcmd : t.cmd = s.cmd) (hpw : t.pw = s.pw) (hsv : t.sv = s.sv) :
    cmdReady t = cmdReady s := by
  simp only [cmdReady, wordReady, hcmd, held_congr hpw hsv]

/-- A held word stays, unanswered, through every step. -/
theorem step_port_of_held {s t : State} (hheld : cmdReady s = false) (h : step s = .next t) :
    t.cmd = s.cmd ∧ t.rsp = none := by
  obtain ⟨w, hcmd, hnot⟩ := (cmdReady_eq_false_iff s).mp hheld
  rcases step_port h with ⟨hrsp, hstays⟩ | ⟨⟨v, hv, hready⟩, _⟩
  · exact ⟨(hstays w hcmd).trans hcmd.symm, hrsp⟩
  · cases hcmd.symm.trans hv
    rw [hnot] at hready; cases hready

/-- A step that lifts a hold is a reset or a hardware tick with the divider at its last count: no other step
changes a table while the word on the port is held. -/
theorem tick_of_hold_lifted {s t : State} (hheld : cmdReady s = false) (hr : s.rst = false)
    (h : step s = .next t) (hlifted : cmdReady t = true) :
    s.hwTick = true ∧ s.tickCount = s.cfg.tickDiv - 1 := by
  obtain ⟨hcmd, _⟩ := step_port_of_held hheld h
  have hchanged : ¬ (t.pw = s.pw ∧ t.sv = s.sv) := fun ⟨hpw, hsv⟩ => by
    rw [cmdReady_congr hcmd hpw hsv, hheld] at hlifted; cases hlifted
  rcases step_cases h with ⟨hr', _⟩ | ⟨_, htick, _, hmove⟩ | ⟨w, _, hw, hready, _⟩ | ⟨_, _, _, rfl⟩
  · rw [hr] at hr'; cases hr'
  · rcases (tickMove_cases hmove).2 with ⟨_, rfl⟩ | ⟨hlast, _⟩
    · exact absurd ⟨rfl, rfl⟩ hchanged
    · exact ⟨htick, hlast⟩
  · rw [cmdReady_of_cmd hw, hready] at hheld; cases hheld
  · obtain ⟨_, hpw, hsv, _⟩ := environmentMove_block s
    exact absurd ⟨hpw, hsv⟩ hchanged

/-- Settles O23: while the word is held the surroundings move or the tick does, and the tables stay until the
tick is a logic tick. -/
theorem heldCommandWaitsForALogicTick : Obligations.HeldCommandWaitsForALogicTick := by
  refine ⟨fun s => ?_, fun s hheld hr htick => ?_, fun s t hheld hr h => ?_, fun s w hcmd hready hr harb => ?_⟩
  · simp only [cmdReady_eq_false_iff, wordReady_eq_false_iff, held_iff_conditionFalse, exists_and_left]
  · have hstep := step_of_environment hr htick (acceptable_none.mpr (.inr hheld))
    obtain ⟨hcfg, hpw, hsv, hsw, hcount, htrace, _⟩ := environmentMove_block s
    exact ⟨_, hstep, ⟨hcfg, hpw, hsv, hsw, hcount, htrace⟩, step_port_of_held hheld hstep⟩
  · obtain ⟨hcmd, hrsp⟩ := step_port_of_held hheld h
    exact ⟨hcmd, hrsp, tick_of_hold_lifted hheld hr h⟩
  · rw [cmdReady_of_cmd hcmd] at hready
    have hstep := step_of_command hr hcmd hready harb
    exact ⟨hstep, fun t ht => runWord_port hready (hstep.symm.trans ht)⟩

/-! ### Holds and logic ticks (R199) -/

/-- A word of a command is ready exactly when the command is not held. -/
theorem wordReady_encode_iff (i : Instr) (s : State) : wordReady (encode i) s = true ↔ held i s = false := by
  simp only [wordReady, decodeOfEncodeIsTheInstruction i, Bool.not_eq_true']

theorem andThen_eq_next {r : Result} {f : State → Result} {t : State} (h : andThen r f = .next t) :
    ∃ u, r = .next u ∧ f u = .next t := by
  cases r with
  | next u => exact ⟨u, rfl, h⟩
  | fault _ => cases h
  | refused _ => cases h

/-- Logic ticks register no channel (R69). -/
theorem logicTicks_length {k : Nat} {s t : State} (h : logicTicks k s = .next t) :
    t.pw.length = s.pw.length ∧ t.sv.length = s.sv.length := by
  induction k generalizing s with
  | zero => cases h; exact ⟨rfl, rfl⟩
  | succ k ih =>
    obtain ⟨u, hu, ht⟩ := andThen_eq_next ((logicTicks_succ k s).symm.trans h)
    obtain ⟨hpwLen, hsvLen⟩ := ih ht
    obtain ⟨_, _, _, _, hsv, hpw, rfl⟩ := logicTick_cases hu
    exact ⟨hpwLen.trans (scanPw_length hpw), hsvLen.trans (scanSv_length hsv)⟩

/-- After `k` logic ticks exactly the channels whose count of R140 is at most `k` are settled. -/
theorem logicTicks_settled (k : Nat) {s : State} (hs : s.Inv) : ∃ t, logicTicks k s = .next t ∧
    (∀ (j : Nat) (p : PwSlot), s.pw[j]? = some p → ∃ q, t.pw[j]? = some q ∧
      (q.current = q.target ↔ countPw p.current p.target p.speed ≤ k)) ∧
    (∀ (j : Nat) (p : SvSlot), s.sv[j]? = some p → ∃ q, t.sv[j]? = some q ∧
      (q.currentAngle = q.targetAngle ↔ countSv p.currentAngle p.targetAngle p.speed ≤ k)) := by
  obtain ⟨t, ht, hpw, hsv⟩ := logicTicks_ramps k hs
  obtain ⟨_, _, _, hpwOk, hsvOk, _⟩ := hs
  obtain ⟨convergePw, convergeSv⟩ := rampsConvergeInTheCountedApplications
  refine ⟨t, ht, fun j p hp => ?_, fun j p hp => ?_⟩
  · obtain ⟨v, hv, hq⟩ := hpw j p hp
    obtain ⟨v', hv', hiff⟩ := convergePw p.current p.target p.speed (hpwOk p (List.mem_of_getElem? hp)) k
    cases hv.symm.trans hv'
    exact ⟨_, hq, hiff⟩
  · obtain ⟨⟨h1, h5⟩, _⟩ := hsvOk p (List.mem_of_getElem? hp)
    obtain ⟨v, hv, hq⟩ := hsv j p hp
    obtain ⟨v', hv', hiff⟩ := convergeSv p.currentAngle p.targetAngle p.speed h1 h5 k
    cases hv.symm.trans hv'
    exact ⟨_, hq, hiff⟩

/-- Two tables of one length whose slots agree place by place agree as wholes. -/
theorem forall_mem_iff_of_pointwise {α : Type} {P Q : α → Prop} {l l' : List α} (hlen : l'.length = l.length)
    (h : ∀ (j : Nat) (p : α), l[j]? = some p → ∃ q, l'[j]? = some q ∧ (P q ↔ Q p)) :
    (∀ q ∈ l', P q) ↔ ∀ p ∈ l, Q p := by
  constructor
  · intro hP p hp
    obtain ⟨j, hj⟩ := List.getElem?_of_mem hp
    obtain ⟨q, hq, hiff⟩ := h j p hj
    exact hiff.mp (hP q (List.mem_of_getElem? hq))
  · intro hQ q hq
    obtain ⟨j, hj, rfl⟩ := List.getElem_of_mem hq
    obtain ⟨q, hq, hiff⟩ := h j l[j] (List.getElem?_eq_getElem (hlen ▸ hj))
    cases (List.getElem?_eq_getElem hj).symm.trans hq
    exact hiff.mpr (hQ _ (List.getElem_mem _))

/-- Settles O42: the holding conditions are read off the settled channels, one or all of a table. -/
theorem holdsEndAfterTheCountedLogicTicks : Obligations.HoldsEndAfterTheCountedLogicTicks := by
  intro s k hs
  obtain ⟨t, ht, hpw, hsv⟩ := logicTicks_settled k hs
  obtain ⟨hpwLen, hsvLen⟩ := logicTicks_length ht
  simp only [wordReady_encode_iff]
  refine ⟨t, ht, fun ch p hp => ?_, fun ch p hp => ?_, ?_, ?_⟩
  · obtain ⟨q, hq, hiff⟩ := hpw ch.toNat p hp
    rw [held_pwWait_of_slot hq, Bool.not_eq_false', settledPw_iff, hiff]
  · obtain ⟨q, hq, hiff⟩ := hsv ch.toNat p hp
    rw [held_svWait, held_svRest_of_slot hq, Bool.not_eq_false', settledSv_iff, hiff, and_self]
  · rw [held_pwWaitall, Bool.not_eq_false', allsetPw_iff]
    exact forall_mem_iff_of_pointwise hpwLen hpw
  · rw [held_svWaitall, Bool.not_eq_false', allsetSv_iff]
    exact forall_mem_iff_of_pointwise hsvLen hsv

end Sys2Proof.Machine
end

section
/-! PROOFS. The exceptions' statements (60_exceptions): which check answers, what an error is and leaves behind,
the host mark, and a tick and a command of one cycle. -/

namespace Sys2Proof.Machine

open Sys2Proof.Claims

/-! ### The order of the checks (R219) -/

theorem held_svRest_of_unregistered {ch : ChanId} {s : State} (hlen : s.sv.length ≤ ch.toNat) :
    held (.svRest ch) s = false := by
  simp only [held, selectSv_of_length_le hlen]

theorem held_pwWait_of_unregistered {ch : ChanId} {s : State} (hlen : s.pw.length ≤ ch.toNat) :
    held (.pwWait ch) s = false := by
  simp only [held, selectPw_of_length_le hlen]

theorem runWord_of_decoded {w : Word} {i : Instr} (h : decode w = .ok i) (s : State) :
    runWord w s = exec i s := by
  simp only [runWord, h]

/-- Settles O18: the channel's check comes before the others, a hold's among them, and the speed's before the
angle's; the rule's example word decodes to a servo move of channel 0. -/
theorem onlyTheFirstErrorIsReported : Obligations.OnlyTheFirstErrorIsReported := by
  refine ⟨fun s w hillegal => runWord_of_illegal hillegal s, fun s ch v sp hlen => ?servo,
    fun s ch v sp hlen => ?pulseWidth, fun s ch v sp hlt hbad => ?speed, fun s w pin aux hw hfull => ?regPw,
    fun s w pin aux hw hfull => ?regSv, fun s w pin aux hw hfull => ?regSw, fun s hempty => ?exampleWord⟩
  case servo =>
    rw [exec_svMoves_of_unregistered v sp hlen, exec_svMove_of_unregistered v hlen,
      exec_svRest_of_unregistered hlen, exec_svWait_of_unregistered hlen, raise_invalidChannel, held_svWait,
      held_svRest_of_unregistered hlen]
    exact ⟨rfl, rfl, rfl, rfl, rfl, rfl⟩
  case pulseWidth =>
    rw [exec_pwFade_of_unregistered v hlen, exec_pwWait_of_unregistered hlen, raise_invalidChannel]
    exact ⟨rfl, rfl, held_pwWait_of_unregistered hlen⟩
  case speed =>
    rw [exec_svMoves_of_slot v sp (List.getElem?_eq_getElem hlt), if_neg (not_speedLegal hbad),
      raise_invalidSpeed]
  case regPw => rw [runWord_of_decoded hw, exec_regPw_of_full pin aux hfull.ge, raise_capacityExceeded]
  case regSv => rw [runWord_of_decoded hw, exec_regSv_of_full pin aux hfull.ge, raise_capacityExceeded]
  case regSw => rw [runWord_of_decoded hw, exec_regSw_of_full pin aux hfull.ge, raise_capacityExceeded]
  case exampleWord =>
    have hdecode : decode 0x340000C8#32 = .ok (.svMoves 0 200 0) := by decide
    have hlen : s.sv.length ≤ (0 : ChanId).toNat := by simp [hempty]
    rw [runWord_of_decoded hdecode, exec_svMoves_of_unregistered 200 0 hlen, raise_invalidChannel]

/-! ### The causes of an error (R210) -/

/-- R210's list: the condition under which the command `i` is answered with an error. -/
def ErrorCause (i : Instr) (s : State) : Status → Prop
  | .capacityExceeded =>
    (∃ pin aux, i = .regPw pin aux ∧ s.cfg.capPw ≤ s.pw.length) ∨
    (∃ pin aux, i = .regSv pin aux ∧ s.cfg.capSv ≤ s.sv.length) ∨
    (∃ pin aux, i = .regSw pin aux ∧ s.cfg.capSw ≤ s.sw.length)
  | .invalidChannel =>
    (∃ ch : ChanId, s.pw.length ≤ ch.toNat ∧ (i = .pwSettled ch ∨ i = .pwWait ch ∨
      (∃ v, i = .pwSet ch v) ∨ (∃ v sp, i = .pwFade ch v sp))) ∨
    (∃ ch : ChanId, s.sv.length ≤ ch.toNat ∧ (i = .svSettled ch ∨ i = .svWait ch ∨ i = .svRest ch ∨
      (∃ a, i = .svMove ch a) ∨ (∃ a sp, i = .svMoves ch a sp))) ∨
    (∃ (ch : ChanId) (h : HoldMs), s.sw.length ≤ ch.toNat ∧ i = .swActive ch h)
  | .invalidSpeed => ∃ (ch : ChanId) (v : BitVec 8) (sp : SpeedCode),
      (sp.toNat = 0 ∨ sp.toNat = 6 ∨ sp.toNat = 7) ∧ (i = .pwFade ch v sp ∨ i = .svMoves ch v sp)
  | .invalidValue => ∃ (ch : ChanId) (a : Angle), s.cfg.svAngleMax.toNat < a.toNat ∧
      (i = .svMove ch a ∨ ∃ sp, i = .svMoves ch a sp)
  | .ok | .illegalCommand => False

theorem toNat_of_not_speedLegal {speed : SpeedCode} (h : ¬ speedLegal speed = true) :
    speed.toNat = 0 ∨ speed.toNat = 6 ∨ speed.toNat = 7 := by
  rw [speedLegal_iff] at h
  have hlt := speed.isLt
  omega

theorem lt_of_not_angleLegal {cfg : Config} {angle : Angle} (h : ¬ angleLegal cfg angle = true) :
    cfg.svAngleMax.toNat < angle.toNat := by
  rw [angleLegal_iff] at h; omega

/-- A channel at or above its counter is answered before anything else is looked at (R117, R219). -/
theorem exec_of_unregistered {i : Instr} {s : State} (h : ErrorCause i s .invalidChannel) :
    exec i s = .next (raise .invalidChannel s) := by
  obtain ⟨ch, hlen, rfl | rfl | ⟨v, rfl⟩ | ⟨v, speed, rfl⟩⟩ |
    ⟨ch, hlen, rfl | rfl | rfl | ⟨a, rfl⟩ | ⟨a, speed, rfl⟩⟩ | ⟨ch, hold, hlen, rfl⟩ := h
  · exact exec_pwSettled_of_unregistered hlen
  · exact exec_pwWait_of_unregistered hlen
  · exact exec_pwSet_of_unregistered v hlen
  · exact exec_pwFade_of_unregistered v hlen
  · exact exec_svSettled_of_unregistered hlen
  · exact exec_svWait_of_unregistered hlen
  · exact exec_svRest_of_unregistered hlen
  · exact exec_svMove_of_unregistered a hlen
  · exact exec_svMoves_of_unregistered a speed hlen
  · exact exec_swActive_of_unregistered hlen hold

/-! ### One command in two states that differ in ports and mark -/

/-- `s` with other words on the ports, and marked if `mark` is set or `s` is. -/
def withPorts (rsp cmd : Option Word) (mark : Bool) (s : State) : State :=
  { s with rsp := rsp, cmd := cmd, hostMark := s.hostMark || mark }

@[simp] theorem withPorts_pw (rsp cmd : Option Word) (mark : Bool) (s : State) :
    (withPorts rsp cmd mark s).pw = s.pw := rfl
@[simp] theorem withPorts_sv (rsp cmd : Option Word) (mark : Bool) (s : State) :
    (withPorts rsp cmd mark s).sv = s.sv := rfl
@[simp] theorem withPorts_sw (rsp cmd : Option Word) (mark : Bool) (s : State) :
    (withPorts rsp cmd mark s).sw = s.sw := rfl

theorem raise_withPorts (rsp cmd : Option Word) (mark : Bool) (st : Status) (s : State) :
    raise st (withPorts rsp cmd mark s) =
      { raise st s with hostMark := (raise st s).hostMark || mark } := by
  simp only [raise, respond, withPorts, Bool.or_right_comm]

/-- An error leaves only its answer, an empty port and the mark (R210, R214). -/
theorem raise_eq_withPorts (st : Status) (s : State) :
    raise st s = withPorts (raise st s).rsp none (raise st s).hostMark s := by
  simp [raise, respond, withPorts]

theorem emitAttach_withPorts (rsp cmd : Option Word) (mark : Bool) (p : SvSlot) (s : State) :
    emitAttach p (withPorts rsp cmd mark s) = withPorts rsp cmd mark (emitAttach p s) := by
  unfold emitAttach; split <;> rfl

/-- What `i` does in `s` and in `withPorts … s`: the same error, for its cause; the same answer with the same
writes; or a hold. -/
inductive Alike (rsp cmd : Option Word) (mark : Bool) (i : Instr) (s : State) : Result → Result → Prop
  | error {st : Status} (hcause : ErrorCause i s st) :
      Alike rsp cmd mark i s (.next (raise st s)) (.next (raise st (withPorts rsp cmd mark s)))
  | answer (data : BitVec 8) (u : State) :
      Alike rsp cmd mark i s (.next (respond .ok data u)) (.next (respond .ok data (withPorts rsp cmd mark u)))
  | hold (hheld : held i s = true) :
      Alike rsp cmd mark i s (.next (holdCommand s)) (.next (holdCommand (withPorts rsp cmd mark s)))

section Alike

variable {rsp cmd : Option Word} {mark : Bool} {i : Instr} {s : State}

/-- One check of an operand or of the state, which reads neither the ports nor the mark. -/
theorem alike_ite {c : Prop} [Decidable c] {a a' b b' : Result} (hpos : c → Alike rsp cmd mark i s a a')
    (hneg : ¬ c → Alike rsp cmd mark i s b b') :
    Alike rsp cmd mark i s (if c then a else b) (if c then a' else b') := by
  split
  · exact hpos ‹c›
  · exact hneg ‹¬ c›

/-- The check of a channel in its table: an unregistered one is the same error in both states. -/
theorem alike_slot {α : Type} (table : List α) (ch : ChanId)
    (hcause : table.length ≤ ch.toNat → ErrorCause i s .invalidChannel)
    (hslot : ∀ p, table[ch.toNat]? = some p →
      Alike rsp cmd mark i s (exec i s) (exec i (withPorts rsp cmd mark s))) :
    Alike rsp cmd mark i s (exec i s) (exec i (withPorts rsp cmd mark s)) := by
  cases hp : table[ch.toNat]? with
  | none =>
    have h := hcause (List.getElem?_eq_none_iff.mp hp)
    rw [exec_of_unregistered h, exec_of_unregistered (s := withPorts rsp cmd mark s) h]
    exact .error h
  | some p => exact hslot p hp

end Alike

/-- Which check answers a command, what it writes and whether it is held are read from the tables, the
parameters and the clock alone. -/
theorem exec_alike (rsp cmd : Option Word) (mark : Bool) (i : Instr) (s : State) :
    Alike rsp cmd mark i s (exec i s) (exec i (withPorts rsp cmd mark s)) := by
  cases i with
  | regPw pin aux =>
    exact alike_ite (fun hfull => .error (.inl ⟨pin, aux, rfl, hfull⟩)) fun _ =>
      .answer _ (emit (.pinMode pin .out) (appendPw (initialPw s.cfg pin) s))
  | regSv pin aux =>
    obtain hroom | hfull := Nat.lt_or_ge s.sv.length s.cfg.capSv
    · rw [exec_regSv_of_room pin aux hroom, exec_regSv_of_room (s := withPorts rsp cmd mark s) pin aux hroom]
      exact .answer _ _
    · rw [exec_regSv_of_full pin aux hfull, exec_regSv_of_full (s := withPorts rsp cmd mark s) pin aux hfull]
      exact .error (.inr (.inl ⟨pin, aux, rfl, hfull⟩))
  | regSw pin aux =>
    exact alike_ite (fun hfull => .error (.inr (.inr ⟨pin, aux, rfl, hfull⟩))) fun _ =>
      .answer _ (emit (.pinMode pin .inp) (appendSw (initialSw pin) s))
  | pwSet ch v =>
    refine alike_slot s.pw ch (fun hlen => .inl ⟨ch, hlen, .inr (.inr (.inl ⟨v, rfl⟩))⟩) fun p hp => ?_
    simp only [exec, execPwSet, selectPw_eq, withPorts_pw, hp]
    exact .answer 0 (writePw ch _ s)
  | pwFade ch v speed =>
    refine alike_slot s.pw ch (fun hlen => .inl ⟨ch, hlen, .inr (.inr (.inr ⟨v, speed, rfl⟩))⟩) fun p hp => ?_
    simp only [exec, execPwFade, selectPw_eq, withPorts_pw, hp]
    exact alike_ite (fun _ => .answer 0 (writePw ch _ s)) fun hspeed =>
      .error ⟨ch, v, speed, toNat_of_not_speedLegal hspeed, .inl rfl⟩
  | svMove ch a =>
    refine alike_slot s.sv ch (fun hlen => .inr (.inl ⟨ch, hlen, .inr (.inr (.inr (.inl ⟨a, rfl⟩)))⟩))
      fun p hp => ?_
    simp only [exec, execSvMove, selectSv_eq, withPorts_sv, hp, emitAttach_withPorts]
    exact alike_ite (fun _ => .answer 0 (writeSv ch _ (emitAttach p s))) fun hangle =>
      .error ⟨ch, a, lt_of_not_angleLegal hangle, .inl rfl⟩
  | svMoves ch a speed =>
    refine alike_slot s.sv ch (fun hlen => .inr (.inl ⟨ch, hlen, .inr (.inr (.inr (.inr ⟨a, speed, rfl⟩)))⟩))
      fun p hp => ?_
    simp only [exec, execSvMoves, selectSv_eq, withPorts_sv, hp, emitAttach_withPorts]
    exact alike_ite (fun _ => alike_ite (fun _ => .answer 0 (writeSv ch _ (emitAttach p s))) fun hangle =>
        .error ⟨ch, a, lt_of_not_angleLegal hangle, .inr ⟨speed, rfl⟩⟩) fun hspeed =>
      .error ⟨ch, a, speed, toNat_of_not_speedLegal hspeed, .inr rfl⟩
  | pwSettled ch =>
    refine alike_slot s.pw ch (fun hlen => .inl ⟨ch, hlen, .inl rfl⟩) fun p hp => ?_
    simp only [exec, execPwSettled, selectPw_eq, withPorts_pw, hp]
    exact .answer _ s
  | svSettled ch =>
    refine alike_slot s.sv ch (fun hlen => .inr (.inl ⟨ch, hlen, .inl rfl⟩)) fun p hp => ?_
    simp only [exec, execSvSettled, selectSv_eq, withPorts_sv, hp]
    exact .answer _ s
  | pwAllset => exact .answer (truthData (allsetPw s)) s
  | svAllset => exact .answer (truthData (allsetSv s)) s
  | pwWait ch =>
    refine alike_slot s.pw ch (fun hlen => .inl ⟨ch, hlen, .inr (.inl rfl)⟩) fun p hp => ?_
    simp only [exec, execPwWait, selectPw_eq, withPorts_pw, hp]
    exact alike_ite (fun _ => .answer 0 s) fun hmoving =>
      .hold (by rwa [held_pwWait_of_slot hp, Bool.not_eq_true', ← Bool.not_eq_true])
  | svWait ch =>
    refine alike_slot s.sv ch (fun hlen => .inr (.inl ⟨ch, hlen, .inr (.inl rfl)⟩)) fun p hp => ?_
    simp only [exec, execSvWait, selectSv_eq, withPorts_sv, hp]
    exact alike_ite (fun _ => .answer 0 s) fun hmoving =>
      .hold (by rwa [held_svWait, held_svRest_of_slot hp, Bool.not_eq_true', ← Bool.not_eq_true])
  | svRest ch =>
    refine alike_slot s.sv ch (fun hlen => .inr (.inl ⟨ch, hlen, .inr (.inr (.inl rfl))⟩)) fun p hp => ?_
    simp only [exec, execSvRest, selectSv_eq, withPorts_sv, hp]
    exact alike_ite
      (fun _ => alike_ite (fun _ => .answer 0 (emit (.svDetach p.pin) (writeSv ch _ s))) fun _ => .answer 0 s)
      fun hmoving => .hold (by rwa [held_svRest_of_slot hp, Bool.not_eq_true', ← Bool.not_eq_true])
  | pwWaitall =>
    exact alike_ite (fun _ => .answer 0 s) fun hmoving =>
      .hold (by rwa [held_pwWaitall, Bool.not_eq_true', ← Bool.not_eq_true])
  | svWaitall =>
    exact alike_ite (fun _ => .answer 0 s) fun hmoving =>
      .hold (by rwa [held_svWaitall, Bool.not_eq_true', ← Bool.not_eq_true])
  | swActive ch hold =>
    refine alike_slot s.sw ch (fun hlen => .inr (.inr ⟨ch, hold, hlen, rfl⟩)) fun p hp => ?_
    simp only [exec, execSwActive, selectSw_eq, withPorts_sw, hp]
    exact .answer (truthData (switchActive s.now hold p)) s

/-! ### What an error is and what it leaves behind (R210, R214) -/

/-- An answer with a status other than 0 is an error with its cause. -/
theorem exec_error {i : Instr} {s t : State} {r : Word} (h : exec i s = .next t) (hr : t.rsp = some r)
    (herr : r.extractLsb' 28 4 ≠ 0#4) : ∃ st, t = raise st s ∧ ErrorCause i s st := by
  have halike := exec_alike none none false i s
  rw [h] at halike
  generalize exec i (withPorts none none false s) = other at halike
  cases halike with
  | error hcause => exact ⟨_, rfl, hcause⟩
  | answer data u => cases hr; exact absurd (responseWord_status .ok data) herr
  | hold hheld => cases hr

/-- Settles O17: an error is `raise`, which writes nothing of the block, and R210's list is `ErrorCause`. -/
theorem errorsWriteNothing : Obligations.ErrorsWriteNothing := by
  intro i s t r h hr herr
  obtain ⟨st, rfl, hcause⟩ := exec_error h hr herr
  cases hr
  refine ⟨⟨rfl, rfl, rfl, rfl, rfl, rfl⟩, ?_⟩
  cases st with
  | ok => cases hcause
  | capacityExceeded => exact .inl ⟨by decide, hcause⟩
  | invalidChannel => exact .inr (.inl ⟨by decide, hcause⟩)
  | invalidSpeed => exact .inr (.inr (.inl ⟨by decide, hcause⟩))
  | invalidValue => exact .inr (.inr (.inr ⟨by decide, hcause⟩))
  | illegalCommand => cases hcause

/-- A command that is not held does the same whatever stands on the ports and in the mark; it only keeps the
mark. -/
theorem exec_withPorts {i : Instr} {s : State} (hheld : held i s = false) (rsp cmd : Option Word)
    (mark : Bool) : ∃ u, exec i s = .next u ∧
      exec i (withPorts rsp cmd mark s) = .next { u with hostMark := u.hostMark || mark } := by
  have halike := exec_alike rsp cmd mark i s
  generalize exec i s = r at halike ⊢
  generalize exec i (withPorts rsp cmd mark s) = r' at halike ⊢
  cases halike with
  | error _ => exact ⟨_, rfl, congrArg _ (raise_withPorts ..)⟩
  | answer _ _ => exact ⟨_, rfl, rfl⟩
  | hold hwaits => rw [hheld] at hwaits; cases hwaits

/-- Settles O20: the state after an error differs from the one before it at the ports and in the mark alone. -/
theorem nothingIsRememberedOfAnError : Obligations.NothingIsRememberedOfAnError := by
  intro i s t r h hr herr k
  obtain ⟨st, rfl, _⟩ := exec_error h hr herr
  refine ⟨held_congr rfl rfl k, fun hheld => ?_⟩
  obtain ⟨u, hu, hnext⟩ := exec_withPorts hheld (raise st s).rsp none (raise st s).hostMark
  exact ⟨u, hu, (congrArg (exec k) (raise_eq_withPorts st s)).trans hnext⟩

/-! ### The host mark (R214, log 13) -/

/-- A command is answered with an error, or it leaves the mark and any answer has status 0. -/
theorem exec_raise_or_ok {i : Instr} {s t : State} (h : exec i s = .next t) :
    (∃ st, st ≠ .ok ∧ t = raise st s) ∨
    (t.hostMark = s.hostMark ∧ ∀ r, t.rsp = some r → r.extractLsb' 28 4 = 0#4) := by
  have answer (data : BitVec 8) (u : State) (r : Word) (hr : (respond .ok data u).rsp = some r) :
      r.extractLsb' 28 4 = 0#4 := by
    cases hr; exact responseWord_status .ok data
  rcases exec_cases h with herror | ⟨_, rfl⟩ | ⟨_, rfl⟩ | ⟨_, _, _, _, rfl⟩ | ⟨_, _, _, _, rfl⟩ |
    ⟨_, _, _, _, rfl⟩ | ⟨_, _, _, _, _, rfl⟩ | ⟨_, _, _, _, _, _, _, rfl⟩ | ⟨_, _, _, _, _, _, rfl⟩ |
    ⟨_, _, _, _, _, _, _, _, rfl⟩ | ⟨_, _, _, _, _, _, rfl⟩
  case inl => exact .inl herror
  case inr.inl => exact .inr ⟨rfl, fun r hr => by cases hr⟩
  all_goals exact .inr ⟨by simp [apply_ite State.hostMark], answer _ _⟩

/-- A response word reports a misuse by the host program: its status is 2 to 5 (R212, R213, R215). -/
def reportsMisuse (r : Word) : Bool := 2 ≤ (r.extractLsb' 28 4).toNat

theorem reportsMisuse_raise (st : Status) :
    reportsMisuse (responseWord st (errorData st)) = blamesHost st := by
  rw [reportsMisuse, responseWord_status]
  cases st <;> rfl

theorem not_reportsMisuse_of_ok {r : Word} (h : r.extractLsb' 28 4 = 0#4) : reportsMisuse r = false := by
  rw [reportsMisuse, h]; rfl

/-- The mark after a transition is the mark before it, or set by a misuse that the transition's answer reports. -/
def RecordsMisuse (s t : State) : Prop := t.hostMark = (s.hostMark || t.rsp.any reportsMisuse)

theorem recordsMisuse_raise (st : Status) (s : State) : RecordsMisuse s (raise st s) := by
  simp [RecordsMisuse, reportsMisuse_raise]

/-- Without an error in its answer a transition that keeps the mark records misuse. -/
theorem recordsMisuse_of_same {s t : State} (hmark : t.hostMark = s.hostMark)
    (hok : ∀ r, t.rsp = some r → r.extractLsb' 28 4 = 0#4) : RecordsMisuse s t := by
  cases hr : t.rsp with
  | none => simp [RecordsMisuse, hr, hmark]
  | some r => simp [RecordsMisuse, hr, hmark, not_reportsMisuse_of_ok (hok r hr)]

theorem recordsMisuse_of_no_rsp {s t : State} (hmark : t.hostMark = s.hostMark) (hrsp : t.rsp = none) :
    RecordsMisuse s t := by
  simp [RecordsMisuse, hmark, hrsp]

theorem tickMove_hostMark {s t : State} (h : tickMove s = .next t) : t.hostMark = s.hostMark := by
  rcases (tickMove_cases h).2 with ⟨_, rfl⟩ | ⟨_, _, _, _, _, _, _, rfl⟩ <;> rfl

theorem runWord_recordsMisuse {w : Word} {s t : State} (h : runWord w s = .next t) : RecordsMisuse s t := by
  rcases runWord_cases h with ⟨i, _, hexec⟩ | ⟨_, rfl⟩
  · rcases exec_raise_or_ok hexec with ⟨st, _, rfl⟩ | ⟨hmark, hok⟩
    · exact recordsMisuse_raise st s
    · exact recordsMisuse_of_same hmark hok
  · exact recordsMisuse_raise .illegalCommand s

/-- Of the four moves a step can be, only a word's transition answers; the others leave the mark. -/
theorem step_recordsMisuse {s t : State} (h : step s = .next t) : RecordsMisuse s t := by
  rcases step_cases h with ⟨_, rfl⟩ | ⟨_, _, _, htick⟩ | ⟨w, _, _, _, _, hrun⟩ | ⟨_, _, _, rfl⟩
  · exact recordsMisuse_of_no_rsp rfl rfl
  · exact recordsMisuse_of_no_rsp (tickMove_hostMark htick) (tickMove_port htick).2
  · exact runWord_recordsMisuse hrun
  · obtain ⟨_, _, _, _, _, _, hmark, hrsp⟩ := environmentMove_block s
    exact recordsMisuse_of_no_rsp hmark hrsp

/-- Settles O21: every step records misuse. -/
theorem hostMarkRecordsMisuseForEver : Obligations.HostMarkRecordsMisuseForEver := by
  intro s t h
  have hrec : t.hostMark = (s.hostMark || t.rsp.any reportsMisuse) := step_recordsMisuse h
  refine ⟨fun hset => by rw [hrec, hset, Bool.true_or], fun hclear => ?_⟩
  rw [hrec, hclear, Bool.false_or]
  cases t.rsp <;> simp [reportsMisuse]

/-! ### A tick and a command of one cycle (R221) -/

/-- No command takes the cycle's tick strobe or its reset input (R48, R240). -/
theorem exec_strobes {i : Instr} {s t : State} (h : exec i s = .next t) :
    t.hwTick = s.hwTick ∧ t.rst = s.rst := by
  rcases exec_cases h with ⟨_, _, rfl⟩ | ⟨_, rfl⟩ | ⟨_, rfl⟩ | ⟨_, _, _, _, rfl⟩ | ⟨_, _, _, _, rfl⟩ |
    ⟨_, _, _, _, rfl⟩ | ⟨_, _, _, _, _, rfl⟩ | ⟨_, _, _, _, _, _, _, rfl⟩ | ⟨_, _, _, _, _, _, rfl⟩ |
    ⟨_, _, _, _, _, _, _, _, rfl⟩ | ⟨_, _, _, _, _, _, rfl⟩
  all_goals simp [apply_ite State.hwTick, apply_ite State.rst]

theorem runWord_strobes {w : Word} {s t : State} (h : runWord w s = .next t) :
    t.hwTick = s.hwTick ∧ t.rst = s.rst := by
  rcases runWord_cases h with ⟨i, _, hexec⟩ | ⟨_, rfl⟩
  · exact exec_strobes hexec
  · exact ⟨rfl, rfl⟩

/-- A tick takes its own strobe (R218). -/
theorem tickMove_strobes {s t : State} (h : tickMove s = .next t) : t.hwTick = false ∧ t.rst = s.rst := by
  rcases (tickMove_cases h).2 with ⟨_, rfl⟩ | ⟨_, _, _, _, _, _, _, rfl⟩ <;> exact ⟨rfl, rfl⟩

/-- Settles O25: a tick that goes first leaves the word on the port and ready; a command that goes first leaves
the strobe and an empty port. -/
theorem coincidentTickAndCommandFollowArb : Obligations.CoincidentTickAndCommandFollowArb := by
  intro s t w hcmd hready hrst htick
  rw [cmdReady_of_cmd hcmd] at hready
  refine ⟨fun harb => ?tickFirst, fun harb => ?cmdFirst⟩
  case tickFirst =>
    have hstep := step_of_tick hrst htick (.inr harb)
    refine ⟨hstep, fun h => ?_⟩
    have hmove := hstep.symm.trans h
    obtain ⟨hstays, _⟩ := tickMove_port hmove
    obtain ⟨htaken, hrst'⟩ := tickMove_strobes hmove
    have hcmd' : t.cmd = some w := hstays.trans hcmd
    have hready' := wordReady_of_tickMove hmove hready
    exact ⟨hcmd', htaken, (cmdReady_of_cmd hcmd').trans hready',
      step_of_command (hrst'.trans hrst) hcmd' hready' (.inl htaken)⟩
  case cmdFirst =>
    have hstep := step_of_command hrst hcmd hready (.inr harb)
    refine ⟨hstep, fun h => ?_⟩
    have hrun := hstep.symm.trans h
    obtain ⟨hgone, _⟩ := runWord_port hready hrun
    obtain ⟨hstrobe, hrst'⟩ := runWord_strobes hrun
    have htick' : t.hwTick = true := hstrobe.trans htick
    exact ⟨hgone, htick', step_of_tick (hrst'.trans hrst) htick' (.inl (acceptable_none.mpr (.inl hgone)))⟩

end Sys2Proof.Machine
end

section
/-! PROOFS. The statements on reset and hazards (70_reset_and_hazards): the word on the port across a reset, what
no command drives or emits, what detaches a servo, and the speed of a faded channel. -/

namespace Sys2Proof.Machine

open Sys2Proof.Claims

/-! ### The word on the port across a reset (R241, log 8) -/

/-- After a reset nothing is held and no strobe is left, so the next step is the presented word's. -/
theorem step_resetMove {s : State} {w : Word} (hcmd : s.cmd = some w) :
    step (resetMove s) = runWord w (resetMove s) := by
  have hready : wordReady w (resetMove s) = true := by
    rw [← cmdReady_of_cmd (s := resetMove s) hcmd]
    exact cmdReady_of_empty rfl rfl
  exact step_of_command rfl hcmd hready (.inl rfl)

/-- A wait or a rest of one channel finds no channel in an empty block. -/
theorem exec_of_no_channel {i : Instr} {s : State} {ch : ChanId} (hpw : s.pw = []) (hsv : s.sv = [])
    (hi : i = .pwWait ch ∨ i = .svWait ch ∨ i = .svRest ch) :
    exec i s = .next (rejected s 0x20000000#32) := by
  have hcause : ErrorCause i s .invalidChannel := by
    rcases hi with hi | hi | hi
    · exact .inl ⟨ch, by simp [hpw], .inr (.inl hi)⟩
    · exact .inr (.inl ⟨ch, by simp [hsv], .inr (.inl hi)⟩)
    · exact .inr (.inl ⟨ch, by simp [hsv], .inr (.inr (.inl hi))⟩)
  rw [exec_of_unregistered hcause, raise_invalidChannel]

/-- A wait for a whole table is answered at once in an empty block. -/
theorem exec_waitall_of_empty {i : Instr} {s : State} (hpw : s.pw = []) (hsv : s.sv = [])
    (hi : i = .pwWaitall ∨ i = .svWaitall) : exec i s = .next (answered s 0) := by
  rcases hi with rfl | rfl
  · rw [exec_pwWaitall, if_pos (by simp [hpw])]
  · rw [exec_svWaitall, if_pos (by simp [hsv])]

/-- A held command that is no wait for a whole table names a channel. -/
theorem names_channel_of_conditionFalse {i : Instr} {s : State} (h : ConditionFalse i s)
    (hpw : i ≠ .pwWaitall) (hsv : i ≠ .svWaitall) :
    ∃ ch, i = .pwWait ch ∨ i = .svWait ch ∨ i = .svRest ch := by
  rcases h with ⟨ch, _, hi, _⟩ | ⟨ch, _, hi, _⟩ | ⟨hi, _⟩ | ⟨hi, _⟩
  · exact ⟨ch, .inl hi⟩
  · exact ⟨ch, .inr hi⟩
  · exact absurd hi hpw
  · exact absurd hi hsv

/-- Settles O28: the reset's next step is the word's, in a block where no channel is registered. -/
theorem heldCommandIsReexaminedAfterReset : Obligations.HeldCommandIsReexaminedAfterReset := by
  refine ⟨fun s hr => ⟨resetMove s, step_of_reset hr, rfl, fun w => step_resetMove⟩,
    fun s w i hr hcmd hdecode hheld => ⟨resetMove s, step_of_reset hr, ?_⟩⟩
  rw [step_resetMove hcmd, runWord_of_decoded hdecode]
  refine ⟨exec_waitall_of_empty rfl rfl, fun hpw hsv => ?_⟩
  obtain ⟨ch, hi⟩ := names_channel_of_conditionFalse hheld hpw hsv
  exact exec_of_no_channel rfl rfl hi

/-! ### What no command drives or emits (R250, R170) -/

theorem getElem?_pwOutputs (s : State) (j : Nat) :
    (pwOutputs s)[j]? = s.pw[j]?.map fun p => (p.pin, p.current) := List.getElem?_map

theorem getElem?_svOutputs (s : State) (j : Nat) :
    (svOutputs s)[j]? = s.sv[j]?.map fun p => (p.pin, p.attached, p.currentAngle) := List.getElem?_map

theorem PwSlotWrite.output_eq {i : Instr} {j : Nat} {p q : PwSlot} (h : PwSlotWrite i j p q) :
    q.pin = p.pin ∧ q.current = p.current := by
  cases h <;> exact ⟨rfl, rfl⟩

theorem SvSlotWrite.output_eq {i : Instr} {j : Nat} {p q : SvSlot} (h : SvSlotWrite i j p q) :
    q.pin = p.pin ∧ q.currentAngle = p.currentAngle := by
  cases h <;> exact ⟨rfl, rfl⟩

/-- The event is no write event of an output (R39). -/
def NoWrite (e : Event) : Prop := (∀ p a, e ≠ .svWrite p a) ∧ (∀ p v, e ≠ .pwWrite p v)

theorem noWrite_pinMode (p : Pin) (d : Dir) : NoWrite (.pinMode p d) := ⟨nofun, nofun⟩

theorem noWrite_svAttach (p : Pin) : NoWrite (.svAttach p) := ⟨nofun, nofun⟩

theorem noWrite_svDetach (p : Pin) : NoWrite (.svDetach p) := ⟨nofun, nofun⟩

/-- The trace goes on without a write event. -/
def EmitsNoWrite (trace trace' : List Event) : Prop :=
  ∃ events, trace' = trace ++ events ∧ ∀ e ∈ events, NoWrite e

theorem EmitsNoWrite.refl (trace : List Event) : EmitsNoWrite trace trace := ⟨[], by simp, by simp⟩

theorem EmitsNoWrite.emit {trace trace' : List Event} (h : EmitsNoWrite trace trace') {e : Event}
    (he : NoWrite e) : EmitsNoWrite trace (trace' ++ [e]) := by
  obtain ⟨events, rfl, hevents⟩ := h
  exact ⟨events ++ [e], List.append_assoc .., List.forall_mem_append.mpr ⟨hevents, by simpa using he⟩⟩

theorem emitAttach_emitsNoWrite (p : SvSlot) (s : State) : EmitsNoWrite s.trace (emitAttach p s).trace := by
  rw [emitAttach_trace]
  split
  · exact .refl _
  · exact (EmitsNoWrite.refl _).emit (noWrite_svAttach p.pin)

/-- A command's events are pin modes at a registration, an attach at one or at a move, and a rest's detach. -/
theorem exec_emitsNoWrite {i : Instr} {s t : State} (h : exec i s = .next t) :
    EmitsNoWrite s.trace t.trace := by
  have same : EmitsNoWrite s.trace s.trace := .refl _
  rcases exec_cases h with ⟨_, _, rfl⟩ | ⟨_, rfl⟩ | ⟨_, rfl⟩ | ⟨pin, _, _, _, rfl⟩ | ⟨pin, _, _, _, rfl⟩ |
    ⟨pin, _, _, _, rfl⟩ | ⟨_, _, _, _, _, rfl⟩ | ⟨_, _, _, _, _, _, _, rfl⟩ | ⟨_, _, p, _, _, _, rfl⟩ |
    ⟨_, _, _, p, _, _, _, _, rfl⟩ | ⟨_, p, _, _, _, _, rfl⟩
  · exact same
  · exact same
  · exact same
  · exact same.emit (noWrite_pinMode pin .out)
  · split
    · exact (same.emit (noWrite_pinMode pin .out)).emit (noWrite_svAttach pin)
    · exact same.emit (noWrite_pinMode pin .out)
  · exact same.emit (noWrite_pinMode pin .inp)
  · exact same
  · exact same
  · exact emitAttach_emitsNoWrite p s
  · exact emitAttach_emitsNoWrite p s
  · exact same.emit (noWrite_svDetach p.pin)

/-- Settles O44: of a slot a command writes neither the pin nor the value its output drives. -/
theorem commandsMoveNothing : Obligations.CommandsMoveNothing := by
  intro i s t h
  obtain ⟨_, hpw, hsv, _⟩ := exec_commandWrite h
  refine ⟨fun j x hx => ?_, fun j pin att a hx => ?_, exec_emitsNoWrite h⟩
  · rw [getElem?_pwOutputs] at hx ⊢
    obtain ⟨p, hp, rfl⟩ := Option.map_eq_some_iff.mp hx
    obtain ⟨q, hq, hw⟩ := hpw.kept j p hp
    obtain ⟨hpin, hcur⟩ := hw.output_eq
    simp [hq, hpin, hcur]
  · rw [getElem?_svOutputs] at hx ⊢
    obtain ⟨p, hp, hout⟩ := Option.map_eq_some_iff.mp hx
    cases hout
    obtain ⟨q, hq, hw⟩ := hsv.kept j p hp
    obtain ⟨hpin, hcur⟩ := hw.output_eq
    exact ⟨q.attached, by simp [hq, hpin, hcur]⟩

/-! ### What detaches a servo (R255) -/

theorem TableWrite.write_at {α : Type} {R : Nat → α → α → Prop} {Grow : Prop} {l l' : List α}
    (h : TableWrite R Grow l l') {j : Nat} {p q : α} (hp : l[j]? = some p) (hq : l'[j]? = some q) : R j p q := by
  obtain ⟨q', hq', hR⟩ := h.kept j p hp
  cases hq.symm.trans hq'
  exact hR

/-- Of the commands only a rest of the channel takes the attach flag back, and only of a settled slot. -/
theorem SvSlotWrite.detach {i : Instr} {j : Nat} {p q : SvSlot} (h : SvSlotWrite i j p q)
    (hp : p.attached = true) (hq : q.attached = false) :
    p.currentAngle = p.targetAngle ∧ q = { p with attached := false } ∧ ∃ ch, i = .svRest ch ∧ ch.toNat = j := by
  cases h with
  | same => rw [hp] at hq; cases hq
  | move => cases hq
  | moveAt => cases hq
  | rest ch hj hi hs => exact ⟨(settledSv_iff p).mp hs, rfl, ch, hi, hj⟩

/-- A step without a reset that changes an attach flag runs the command on the port. -/
theorem exec_of_attached_changed {s t : State} {j : Nat} {p q : SvSlot} (h : step s = .next t)
    (hrst : s.rst = false) (hp : s.sv[j]? = some p) (hq : t.sv[j]? = some q) (hne : p.attached ≠ q.attached) :
    ∃ w i, s.cmd = some w ∧ decode w = .ok i ∧ exec i s = .next t := by
  have hsv : t.sv ≠ s.sv := fun hsame => by
    rw [hsame, hp] at hq; cases hq; exact hne rfl
  rcases step_cases h with ⟨hr, _⟩ | ⟨_, _, _, htick⟩ | ⟨w, _, hcmd, _, _, hrun⟩ | ⟨_, _, _, rfl⟩
  · rw [hrst] at hr; cases hr
  · obtain ⟨_, rfl⟩ := (tickMove_tickWrite htick).sv.write_at hp hq
    exact absurd rfl hne
  · rcases runWord_cases hrun with ⟨i, hi, hexec⟩ | ⟨_, rfl⟩
    · exact ⟨w, i, hcmd, hi, hexec⟩
    · exact absurd rfl hsv
  · obtain ⟨_, _, hsame, _⟩ := environmentMove_block s
    exact absurd hsame hsv

/-- Settles O48: the step is a command's, and the command is a rest of the slot's channel. -/
theorem detachOnlyByRestAndOnlySettled : Obligations.DetachOnlyByRestAndOnlySettled := by
  intro s t j p q h hrst hp hq hatt hdet
  obtain ⟨w, i, hcmd, hdecode, hexec⟩ := exec_of_attached_changed h hrst hp hq (by simp [hatt, hdet])
  obtain ⟨hsettled, hslot, ch, rfl, hj⟩ := ((exec_commandWrite hexec).sv.write_at hp hq).detach hatt hdet
  exact ⟨hsettled, hslot, w, ch, hcmd, hdecode, hj⟩

/-! ### The speed of a faded channel (R257, R173) -/

theorem ne_zero_of_speedLegal {speed : SpeedCode} (h : speedLegal speed = true) : speed ≠ 0 := by
  rintro rfl; cases h

/-- Every change of a pulse-width slot keeps a ramp speed: a fade stores a legal one, nothing else writes it. -/
theorem PwSlotStep.speed_ne_zero {p q : PwSlot} (h : PwSlotStep p q) (hp : p.speed ≠ 0) : q.speed ≠ 0 := by
  cases h with
  | same => exact hp
  | retarget v => exact hp
  | fade v speed hs => exact ne_zero_of_speedLegal hs
  | update hu => obtain ⟨_, _, rfl, _⟩ := updatePw_cases hu; exact hp

/-- A fade answered OK found its channel registered and its speed legal, and wrote both operands (R172). -/
theorem pwFade_of_answered_ok {s t : State} {ch : ChanId} {v : Level} {speed : SpeedCode}
    (h : exec (.pwFade ch v speed) s = .next t) (hok : t.rsp = some 0#32) :
    speedLegal speed = true ∧ ∃ p, s.pw[ch.toNat]? = some p ∧
      t = respond .ok 0 (writePw ch { p with target := v, speed := speed } s) := by
  cases hp : s.pw[ch.toNat]? with
  | none =>
    rw [exec_pwFade_of_unregistered v (List.getElem?_eq_none_iff.mp hp), raise_invalidChannel] at h
    cases h; cases hok
  | some p =>
    rw [exec_pwFade_of_slot v hp] at h
    split at h
    · next hs => cases h; exact ⟨hs, p, rfl, rfl⟩
    · rw [raise_invalidSpeed] at h; cases h; cases hok

/-- Settles O49: a step changes a slot's speed only to a legal one, and a fade answered OK stored one. -/
theorem fadedChannelNeverSnapsAgain : Obligations.FadedChannelNeverSnapsAgain := by
  constructor
  · intro s t j p q h hrst hp hq hne
    obtain ⟨q', hq', hstep⟩ := (step_blockStep h hrst).pw.kept j p hp
    cases hq.symm.trans hq'
    exact hstep.speed_ne_zero hne
  · intro s ch v speed t q h hok hq
    obtain ⟨hlegal, p, hp, rfl⟩ := pwFade_of_answered_ok h hok
    obtain ⟨hlt, _⟩ := List.getElem?_eq_some_iff.mp hp
    rw [respond_pw, writePw_pw, List.getElem?_set_self hlt] at hq
    cases hq
    exact ne_zero_of_speedLegal hlegal

end Sys2Proof.Machine
end
